-- ==== Sys2Proof/Word.lean ====
section
/-! DEFINITION. The words of the block's attachments: bytes, two-byte and converter words, port masks. -/

namespace Sys2Proof

/-- One byte of a host frame, a lane word or a bus transfer. -/
abbrev Byte := BitVec 8

/-- Two bytes, as a field of a host frame carries them. -/
abbrev Half := BitVec 16

/-- One raw converter sample: ten bits, two's complement (R115). -/
abbrev Sample := BitVec 10

/-- A mask of local ports 0 to 11 of one power-sourcing controller (R205). -/
abbrev PortMask := BitVec 12

/-- The window of one launch: 1,280 samples on each of the four channels (R115). -/
abbrev Window := Vector (Vector Sample 1280) 4

end Sys2Proof
end

