-- ==== Sys2Proof/Syntax.lean ====
section
/-! DEFINITION. The commands of spec/opcode_table.json, one constructor for each row, with their operands. -/

namespace Sys2Proof

/-- Ports are numbered 0 to 47. -/
abbrev PortId := Fin 48
/-- Lane links are numbered 0 to 5. -/
abbrev LaneId := Fin 6
/-- Engines are numbered 0 to 3. -/
abbrev EngineId := Fin 4
/-- The 32 slots of the Request Table. -/
abbrev SlotId := Fin 32
/-- The 8 slots of the Trace Store. -/
abbrev TraceId := Fin 8

/-- The host line rate that the strap selects (R187). -/
inductive LineRate where
  | b115200 | b921600 | b3000000
deriving DecidableEq, Repr

/-- The power bus rate that the strap selects (R166). -/
inductive BusRate where
  | k100 | k400
deriving DecidableEq, Repr

/-- The strap pins: line rate (R187), own bus address 88 + `address` and bus rate (R166). -/
structure Straps where
  lineRate : LineRate
  address : Fin 4
  busRate : BusRate
deriving DecidableEq, Repr

/-- The policy record as a PORT_POLICY request carries it, each field in its width (R203). -/
structure RawPolicy where
  allowed : Byte
  ceiling : Byte
  k : Byte
  failsLimit : Byte
  trainTimeout : Half
  glitchMs : Byte
  flapLimit : Byte
  windowS : Half
  holddownS : Half
  recheckS : Half
  autoDiagnose : Byte
  depowerAllowed : Byte
  profile : Byte
  launchOffset : Byte
  averaging : Byte
deriving DecidableEq, Repr

/-- The profile entry as a PROFILE_WRITE request carries it (R203). -/
structure RawProfile where
  nvp : Half
  atten : Byte
  floor : Half
  hard : Half
  cross : Half
  loss : Half
  reach10G : Byte
  reach5G : Byte
  reach2G5 : Byte
  reach1G : Byte
  reach100M : Byte
deriving DecidableEq, Repr

/-- One entry of a POWER_MAP request (R202). -/
structure RawMapEntry where
  address : Byte
  first : Byte
  count : Byte
deriving DecidableEq, Repr

/-- What comes with a PART_RESET: the frame's TAG, and the levels that the strap pins have at the reset it brings
(R199; log entry 4). -/
structure ResetAsk where
  tag : Byte
  pins : Straps
deriving DecidableEq, Repr

/-- The commands. A request carries its frame's TAG and its payload fields as the frame holds them.
A command named after a taken lane report takes that report from the head of the lane's FIFO (R39). -/
inductive Instr where
  | powerOnReset (pins : Straps)
  | lineReady
  | hostByteReceived (byte : Byte) (stopBit : Bool)
  | gapTimerExpiry
  | requestHandlerTake
  | portAdminUp (tag port : Byte)
  | portAdminDown (tag port : Byte)
  | portRetrain (tag port : Byte)
  | ladderClear (tag port : Byte)
  | portQuery (tag port : Byte)
  | portPolicyWrite (tag port : Byte) (record : RawPolicy)
  | portPolicyRead (tag port : Byte)
  | portPolicyDiscard (tag port : Byte)
  | profileWrite (tag index : Byte) (entry : RawProfile)
  | profileRead (tag index : Byte)
  | diagRequest (tag port kind pair cls averaging force : Byte) (diagTag : Half)
  | diagCancel (tag port : Byte)
  | engineQueryEngines (tag : Byte)
  | engineQueryTable (tag start : Byte)
  | cableQuery (tag port : Byte)
  | tracePage (tag port page : Byte)
  | powerMap (tag : Byte) (entries : List RawMapEntry)
  | powerQuery (tag : Byte)
  | noticeMask (tag flags : Byte)
  | linkQuery (tag clear : Byte)
  | partReset (ask : ResetAsk)
  | frameTransmitEnd
  | laneReportArrival (lane : LaneId) (word : List Byte)
  | alive (lane : LaneId) (status : Byte)
  | aliveWatchExpiry (lane : LaneId)
  | energy (lane : LaneId)
  | partner (lane : LaneId)
  | lock (lane : LaneId)
  | loss (lane : LaneId)
  | restore (lane : LaneId)
  | margin (lane : LaneId)
  | lossEst (lane : LaneId)
  | attemptTimerExpiry (port : PortId)
  | glitchTimerExpiry (port : PortId)
  | windowTimerExpiry (port : PortId)
  | holddownTimerExpiry (port : PortId)
  | recheckTimerExpiry (port : PortId)
  | slotHoldTimerExpiry (slot : SlotId)
  | warmupTimerExpiry (engine : EngineId)
  | idleTimerExpiry (engine : EngineId)
  | settleEnd (engine : EngineId)
  | pulserSwitchEnd (engine : EngineId)
  | repetitionCompareMatch (engine : EngineId) (window : Window)
  | analysisEnd (engine : EngineId)
  | recoveryEnd (engine : EngineId)
  | referenceLoss
  | referenceEdge
  | qualificationGap
  | referenceReturn
  | traceHoldTimerExpiry (slot : TraceId)
  | busStartDetected
  | busStopDetected
  | busIdleTimeout
  | attemptStart (withdrawn : Bool)
  | transactionSuccess (stateBytes : List Byte)
  | addressNack (second : Bool)
  | dataNack
  | arbitrationLoss (addressAcked : Bool) (addressByte : Option Byte)
  | stuckBus (addressAcked : Bool)
  | stuckBusEnd
  | rePollTimerExpiry (entry : Fin 6)
  | slaveAddressByte (byte : Byte)
  | stretchTimeout
  | eventWrite (bytes : List Byte)
  | generalCallReceived (bytes : List Byte)
  | inboundEntryTaken
  | selfBaselineCaptureStart (engine : EngineId)
deriving DecidableEq, Repr

end Sys2Proof
end

