-- ==== Sys2Proof/Config.lean ====
section
/-! DEFINITION. What one part of the family fixes or the spec leaves open: the straps of the model's reset
state and the free converter samples. -/

namespace Sys2Proof

/-- DESIGN CHOICE (log entry 4), unsafe: the strap levels of `State.reset`. The spec leaves them to the board. -/
def Config.resetStraps : Straps := { lineRate := .b115200, address := 0, busRate := .k100 }

/-- A free value: the averaged baseline samples of a self-baseline capture whose windows were not reported to the
model (log entry 11). The first argument counts the warm-ups that ended so, the others are the pulse pair, the
channel and the index of the sample. No body: nothing can be proved of it. -/
opaque Config.freeSample : Nat → Nat → Nat → Nat → Sample

end Sys2Proof
end

