-- ==== Sys2Proof/Machine/State.lean ====
section
/-! DEFINITION. The state of the block: every register, table, queue, timer and mode the spec names, its reset
value, and the reasons a command can stop. -/

namespace Sys2Proof.Machine

/-- Why the machine would stop with a fault. -/
inductive Fault where
  /-- Raised by no meaning of this model: the spec gives every command an effect in every state. The type keeps one
  name because the host's interface asks for one. Safe: nothing answers it. -/
  | neverRaised
deriving DecidableEq, Repr

/-- Why a command would be turned away. -/
inductive Refusal where
  /-- Raised only by an arm of `exec` whose command has no meaning yet; no arm is left so. Safe. -/
  | notModelled (mnemonic : String)
deriving DecidableEq, Repr

/-- A timer: stopped, or running with the time that remains. -/
abbrev Timer := Option Nat

/-- The five rates, from highest to lowest. -/
inductive Rate where
  | r10G | r5G | r2G5 | r1G | r100M
deriving DecidableEq, Repr

/-- One value for each rate. -/
structure PerRate (α : Type) where
  r10G : α
  r5G : α
  r2G5 : α
  r1G : α
  r100M : α
deriving DecidableEq, Repr

/-- A set of rates. -/
abbrev RateSet := PerRate Bool

/-- The four pairs of a cable. -/
inductive Pair where
  | A | B | C | D
deriving DecidableEq, Repr

/-- One value for each pair (or for each capture channel, R104). -/
structure PerPair (α : Type) where
  a : α
  b : α
  c : α
  d : α
deriving DecidableEq, Repr

inductive Admin where
  | down | up
deriving DecidableEq, Repr

inductive PortState where
  | off | listen | negotiate | train | verify | up | holddown | diagnose | faulted
deriving DecidableEq, Repr

inductive Cause where
  | none | unplugged | loss | margin | timeout | laneDown | retrain | diagnose | cableFault | noRate
deriving DecidableEq, Repr

inductive PowerState where
  | none | unknown | off | detecting | powered | holdPending | held | fault
deriving DecidableEq, Repr

/-- Averaging: the pulses of a stage, 1, 4, 16 or 64. -/
inductive Averaging where
  | n1 | n4 | n16 | n64
deriving DecidableEq, Repr

/-- The policy record (R63). Ranges are kept by the clamp of R64. -/
structure Policy where
  allowed : RateSet
  ceiling : Rate
  k : Nat
  failsLimit : Nat
  trainTimeout : Nat
  glitchMs : Nat
  flapLimit : Nat
  windowS : Nat
  holddownS : Nat
  recheckS : Nat
  autoDiagnose : Bool
  depowerAllowed : Bool
  profile : Fin 8
  launchOffset : Nat
  averaging : Averaging
deriving DecidableEq, Repr

/-- One entry of the Cable Profile Table (R71). -/
structure Profile where
  nvp : Nat
  atten : Nat
  floor : Nat
  hard : Nat
  cross : Nat
  loss : Nat
  reach : PerRate Nat
deriving DecidableEq, Repr

inductive LengthSource where
  | tdrEnd | insertionLoss
deriving DecidableEq, Repr

structure LengthEstimate where
  cm : Nat
  source : LengthSource
deriving DecidableEq, Repr

structure LastMargins where
  margins : PerPair Int
  rate : Rate
deriving DecidableEq, Repr

/-- What R25 records at entry into DIAGNOSE. -/
structure ReturnInfo where
  admin : Admin
  holddown : Nat
  state : PortState
  cause : Cause
deriving DecidableEq, Repr

/-- One entry of the Port Context Table (R1). -/
structure PortCtx where
  admin : Admin
  state : PortState
  cause : Cause
  energy : Bool
  partner : Option RateSet
  candidate : Option Rate
  current : Option Rate
  fails : PerRate Nat
  barred : PerRate Bool
  negFails : Nat
  exhausted : Bool
  awaiting : Bool
  samples : Nat
  sum : Int
  lastMargins : Option LastMargins
  lowStreak : Nat
  glitchCount : Nat
  flapCount : Nat
  attempt : Timer
  glitch : Timer
  window : Timer
  holddown : Timer
  recheck : Timer
  insertionLoss : Option Nat
  length : Option LengthEstimate
  power : PowerState
  holdOwned : Bool
  returnInfo : Option ReturnInfo
  active : Policy
  pendingPolicy : Option Policy
deriving DecidableEq, Repr

/-- The lane commands (R34). -/
inductive LaneCommand where
  | train (rate : Rate) | renegotiate | halt | reconnect | isolate
deriving DecidableEq, Repr

/-- A checked and clamped lane report in a FIFO, with its local port (R35, R36). -/
inductive Report where
  | energy (localPort : Fin 8) (present : Bool)
  | partner (localPort : Fin 8) (rates : RateSet)
  | lock (localPort : Fin 8) (rate : Rate)
  | loss (localPort : Fin 8)
  | restore (localPort : Fin 8)
  | margin (localPort : Fin 8) (margins : PerPair Int)
  | lossEst (localPort : Fin 8) (cdB : Nat)
deriving DecidableEq, Repr

/-- One lane link (R33). `sent` is the model's own record of the lane words sent, the oldest first, each with the bytes of
R206 (log entry 7). -/
structure Lane where
  up : Bool
  watch : Timer
  fifo : List Report
  ready : Bool
  sent : List (List Byte)
deriving DecidableEq, Repr

/-- The kind of a measurement request. -/
inductive Kind where
  | full | pair (p : Pair) | quick | passive
deriving DecidableEq, Repr

/-- The class of a request (R80). -/
inductive Urgency where
  | urgent | auto | routine
deriving DecidableEq, Repr

inductive Origin where
  | host | auto
deriving DecidableEq, Repr

inductive Phase where
  | queued | assigned (engine : EngineId) | complete
deriving DecidableEq, Repr

/-- The outcome of a completed slot (R97). -/
inductive DiagOutcome where
  | complete | passive | cancelled | abortedPower | abortedRef | powerHoldTimeout | powerHoldRefused
  | powerUnavailable
deriving DecidableEq, Repr

inductive Verdict where
  | ok | impaired | fault | unterminated | noCable | unknown
deriving DecidableEq, Repr

/-- What the Record Store returns to the scheduler (R153). -/
structure StoreReceipt where
  seq : Nat
  verdict : Verdict
  traceDropped : Bool
deriving DecidableEq, Repr

/-- One occupied slot of the Request Table (R78). `age` is the order in which slots were taken (R80). -/
structure Slot where
  phase : Phase
  port : PortId
  kind : Kind
  urgency : Urgency
  averaging : Averaging
  force : Bool
  origin : Origin
  tags : List Nat
  seq : Nat
  age : Nat
  holdTimer : Timer
  outcome : Option DiagOutcome
  receipt : Option StoreReceipt
deriving DecidableEq, Repr

inductive Warmth where
  | cold | warming | warm
deriving DecidableEq, Repr

inductive Duty where
  | free | assigned | routing | capturing | analysing | recovering
deriving DecidableEq, Repr

/-- One channel's trace: sums, averaged samples or working samples, 1,280 of them. -/
abbrev Trace := Vector Int 1280

/-- The constants an engine copies at assignment (R76). -/
structure Snapshot where
  index : Fin 8
  profile : Profile
  launchOffset : Nat
deriving DecidableEq, Repr

structure EngineSlot where
  port : PortId
  seq : Nat
deriving DecidableEq, Repr

/-- What a finished stage leaves in the stage store (R116). -/
structure Stage where
  pair : Pair
  traces : PerPair Trace
  clip : PerPair Bool
deriving DecidableEq, Repr

/-- The engine record (R104), with the launches and clip flags of the stage in progress (R115, R116). The
baseline sets are absent while they are invalid. `step` counts microseconds, `repetition` nanoseconds. -/
structure Engine where
  warmth : Warmth
  duty : Duty
  slot : Option EngineSlot
  snapshot : Option Snapshot
  averaging : Option Averaging
  baselines : Option (PerPair (PerPair Trace))
  a0 : Option Nat
  lowLaunch : Bool
  pulsePair : Option Pair
  accumulator : PerPair Trace
  clip : PerPair Bool
  launched : Nat
  stages : List Stage
  warmup : Timer
  idle : Timer
  step : Timer
  repetition : Timer
deriving DecidableEq, Repr

/-- The route of a port through the Pair Switch Matrix (R110). -/
inductive Route where
  | transceiver | engine (n : EngineId)
deriving DecidableEq, Repr

/-- The Reference Monitor (R123). -/
structure Reference where
  present : Bool
  qualify : Timer
  losses : Nat
deriving DecidableEq, Repr

/-- One stage of a job (R117). -/
structure JobStage where
  pair : Pair
  capture : PerPair Trace
  baseline : PerPair Trace
  clip : PerPair Bool
deriving DecidableEq, Repr

/-- A job of the Reflection Analyser (R117, R128). -/
structure Job where
  kind : Kind
  a0 : Nat
  lowLaunch : Bool
  snapshot : Snapshot
  stages : List JobStage
deriving DecidableEq, Repr

inductive FindingKind where
  | openEnd | short | highImpedance | lowImpedance | crossShort
deriving DecidableEq, Repr

/-- One finding (R129). -/
structure Finding where
  pair : Pair
  kind : FindingKind
  distance : Nat
  rho : Int
  saturated : Bool
  partner : Option Pair
deriving DecidableEq, Repr

inductive PairStatus where
  | ok | impaired | fault | endOfCable
deriving DecidableEq, Repr

/-- What a result says of one pair (R129). -/
structure PairResult where
  status : Option PairStatus
  findings : List Finding
  truncated : Bool
  coupling : Option Nat
  saturated : Bool
  margin : Option Int
deriving DecidableEq, Repr

/-- A result, measured or passive (R129). -/
structure Result where
  kind : Kind
  profile : Fin 8
  averaging : Averaging
  lowLaunch : Bool
  verdict : Verdict
  length : Option LengthEstimate
  pairs : PerPair PairResult
  traces : PerPair (Option Trace)
deriving DecidableEq, Repr

/-- One record of the Cable Record Table (R152). -/
structure Record where
  seq : Nat
  stamp : Nat
  kind : Kind
  profile : Fin 8
  averaging : Averaging
  lowLaunch : Bool
  traceDropped : Bool
  verdict : Verdict
  length : Option LengthEstimate
  pairs : PerPair PairResult
deriving DecidableEq, Repr

/-- One occupied slot of the Trace Store (R156). A pair is present when its trace is. -/
structure TraceSet where
  port : PortId
  seq : Nat
  kind : Kind
  traces : PerPair (Option Trace)
  held : Bool
  hold : Timer
  stale : Bool
deriving DecidableEq, Repr

/-- The Record Store (R152, R154, R156). `order` is the order of writing, earliest first. -/
structure RecordStore where
  records : Vector (Option Record) 48
  counter : Nat
  traces : Vector (Option TraceSet) 8
  order : List TraceId
deriving DecidableEq, Repr

inductive BusPhase where
  | idle | busy | master | stuck
deriving DecidableEq, Repr

inductive Presence where
  | unseen | present | lost
deriving DecidableEq, Repr

/-- One entry of the Controller Map (R168). -/
structure MapEntry where
  address : Nat
  first : Nat
  count : Nat
  presence : Presence
  nacks : Nat
  rePoll : Timer
deriving DecidableEq, Repr

inductive TxKind where
  | hold | release | poll
deriving DecidableEq, Repr

/-- When the head entry may next start an attempt (R173, R175, R178). -/
inductive Retry where
  /-- no retry time -/
  | ready
  /-- so many microseconds after the next STOP -/
  | afterStop (micros : Nat)
  /-- a backoff that passes in so many microseconds; a START seen meanwhile begins it anew (R178) -/
  | backingOff (micros : Nat)
  /-- a retry time after an address NACK that passes in so many microseconds (R175) -/
  | running (micros : Nat)
deriving DecidableEq, Repr

/-- One entry of the outbound transaction queue (R170, R171). -/
structure OutEntry where
  address : Nat
  kind : TxKind
  mask : PortMask
  losses : Nat
  retry : Retry
deriving DecidableEq, Repr

/-- The attempt in progress (R172): the mask sent, the port count that the controller had at its START (the state
bytes that a POLL reads, R174), the ports named again while it runs (log entry 20), and whether a new map has
orphaned it (R169). -/
structure Attempt where
  address : Nat
  kind : TxKind
  count : Nat
  sent : PortMask
  added : PortMask
  orphan : Bool
deriving DecidableEq, Repr

/-- An entry of the inbound event buffer (R183). -/
inductive Inbound where
  | event (address : Nat) (localPort : Nat) (state : PowerState)
  | allPowerDown
deriving DecidableEq, Repr

/-- What the part does in a transfer of another master (R181, R182, R185). -/
inductive Slave where
  /-- takes no part in the transfer -/
  | aside
  /-- a START has been seen and no address byte yet -/
  | listening
  /-- the clock is held low before the acknowledge bit, with so many ms left -/
  | stretching (general : Bool) (left : Nat)
  /-- an EVENT is being received; the bytes acknowledged so far -/
  | event (got : List Byte)
  /-- a general call is being received -/
  | general
deriving DecidableEq, Repr

/-- The eight bus counters, in the order of R166. -/
structure BusCounters where
  arbitrationLosses : Nat
  addressNacks : Nat
  dataNacks : Nat
  dropped : Nat
  stuck : Nat
  accepted : Nat
  bytesRefused : Nat
  refusedFull : Nat
deriving DecidableEq, Repr

/-- The Power Coordination Port (R166). `acks` is the model's own record of the acknowledge bits that the part has
answered in the present transfer, to the state bytes of a POLL too; `out` its record of the bytes that the latest
attempt has to send after its START (log entry 7). -/
structure Bus where
  phase : BusPhase
  map : List MapEntry
  queue : List OutEntry
  attempt : Option Attempt
  inbound : List Inbound
  slave : Slave
  acks : List Bool
  out : List Byte
  counters : BusCounters
deriving DecidableEq, Repr

/-- A host frame without SYNC, LEN and CRC (section 10.2). -/
structure Frame where
  type : Byte
  tag : Byte
  payload : List Byte
deriving DecidableEq, Repr

/-- A reply; `resets` marks the reply whose last byte resets the part (R199). -/
structure Reply where
  frame : Frame
  resets : Bool
deriving DecidableEq, Repr

/-- PORT_CHANGE (R32). -/
structure PortChange where
  port : PortId
  state : PortState
  cause : Cause
  admin : Admin
  current : Option Rate
  exhausted : Bool
  seconds : Nat
  count : Nat
deriving DecidableEq, Repr

/-- DIAG_DONE (R100). -/
structure DiagDone where
  port : PortId
  outcome : DiagOutcome
  seq : Nat
  kind : Kind
  urgency : Urgency
  averaging : Averaging
  origin : Origin
  engine : Option EngineId
  tags : List Nat
  receipt : Option StoreReceipt
  seconds : Nat
deriving DecidableEq, Repr

inductive PowerFaultKind where
  | controllerLost | dataRefused | arbitrationLimit | stuckBus
deriving DecidableEq, Repr

/-- POWER_FAULT (R186). -/
structure PowerFault where
  kind : PowerFaultKind
  address : Option Nat
  count : Nat
  seconds : Nat
deriving DecidableEq, Repr

/-- REF_CHANGE (R126). -/
structure RefChange where
  present : Bool
  losses : Nat
  seconds : Nat
deriving DecidableEq, Repr

inductive StartCause where
  | powerOn | partReset
deriving DecidableEq, Repr

/-- STARTED (R198). -/
structure Started where
  cause : StartCause
  straps : Straps
  seconds : Nat
deriving DecidableEq, Repr

/-- The five classes of notices (R195). A DIAG_DONE names the slot that its transmission releases (R101). -/
inductive Notice where
  | started (n : Started)
  | portChange (n : PortChange)
  | diagDone (slot : SlotId) (n : DiagDone)
  | powerFault (n : PowerFault)
  | refChange (n : RefChange)
deriving DecidableEq, Repr

/-- The notice mask: a set flag enables the class (R196). -/
structure NoticeMask where
  portChange : Bool
  diagDone : Bool
  powerFault : Bool
  refChange : Bool
deriving DecidableEq, Repr

inductive Receiver where
  | hunt
  /-- the bytes received after SYNC -/
  | inFrame (bytes : List Byte)
deriving DecidableEq, Repr

inductive Transmitter where
  | idle
  /-- sending the reply in the sending position -/
  | reply
  | notice (n : Notice)
deriving DecidableEq, Repr

/-- The nine link counters, in the order of R187. -/
structure LinkCounters where
  framing : Nat
  gapTimeouts : Nat
  crc : Nat
  oversize : Nat
  overruns : Nat
  huntDiscards : Nat
  accepted : Nat
  repliesSent : Nat
  noticesSent : Nat
deriving DecidableEq, Repr

/-- The Host Serial Link (R187). -/
structure Link where
  ready : Bool
  readyTimer : Timer
  receiver : Receiver
  gap : Timer
  buffer : List Frame
  waiting : Option Reply
  sending : Option Reply
  transmitter : Transmitter
  notices : List Notice
  mask : NoticeMask
  counters : LinkCounters
deriving DecidableEq, Repr

/-- The whole block. -/
structure State where
  seconds : Nat
  millis : Nat
  micros : Nat
  pins : Straps
  straps : Straps
  link : Link
  ports : Vector PortCtx 48
  profiles : Vector Profile 8
  lanes : Vector Lane 6
  slots : Vector (Option Slot) 32
  admissions : Nat
  taken : Nat
  engines : Vector Engine 4
  routes : Vector Route 48
  reference : Reference
  jobs : Vector (Option Job) 4
  store : RecordStore
  bus : Bus
  freeCount : Nat
  pending : List Instr
deriving DecidableEq, Repr

/-- The same value for each rate. -/
def PerRate.all {α : Type} (x : α) : PerRate α := { r10G := x, r5G := x, r2G5 := x, r1G := x, r100M := x }

/-- The same value for each pair. -/
def PerPair.all {α : Type} (x : α) : PerPair α := { a := x, b := x, c := x, d := x }

/-- The default policy (R63). -/
def Policy.default : Policy :=
  { allowed := PerRate.all true, ceiling := .r10G, k := 16, failsLimit := 2, trainTimeout := 3000, glitchMs := 4,
    flapLimit := 5, windowS := 30, holddownS := 60, recheckS := 120, autoDiagnose := true, depowerAllowed := false,
    profile := 0, launchOffset := 40, averaging := .n16 }

/-- The default profile entry (R71). -/
def Profile.default : Profile :=
  { nvp := 690, atten := 6, floor := 150, hard := 600, cross := 500, loss := 2200, reach := PerRate.all 100 }

/-- A port context at reset (R1). -/
def PortCtx.reset : PortCtx :=
  { admin := .down, state := .off, cause := .none, energy := false, partner := none, candidate := none,
    current := none, fails := PerRate.all 0, barred := PerRate.all false, negFails := 0, exhausted := false,
    awaiting := false, samples := 0, sum := 0, lastMargins := none, lowStreak := 0, glitchCount := 0, flapCount := 0,
    attempt := none, glitch := none, window := none, holddown := none, recheck := none, insertionLoss := none,
    length := none, power := .none, holdOwned := false, returnInfo := none, active := Policy.default,
    pendingPolicy := none }

/-- A lane at reset (R33). -/
def Lane.reset : Lane := { up := false, watch := none, fifo := [], ready := true, sent := [] }

/-- A trace of zeros. -/
def Trace.zero : Trace := Vector.replicate 1280 0

/-- An engine at reset (R104). The rules give no value after reset for the launches made, for the clip flags and for
the repetition timer (R115): DESIGN CHOICE, 0, clear and stopped (log entry 23). -/
def Engine.reset : Engine :=
  { warmth := .cold, duty := .free, slot := none, snapshot := none, averaging := none, baselines := none, a0 := none,
    lowLaunch := false, pulsePair := none, accumulator := PerPair.all Trace.zero, clip := PerPair.all false,
    launched := 0, stages := [], warmup := none, idle := none, step := none, repetition := none }

/-- The link counters all 0 (R187, R200). -/
def LinkCounters.zero : LinkCounters := ⟨0, 0, 0, 0, 0, 0, 0, 0, 0⟩

/-- The bus counters all 0 (R166). -/
def BusCounters.zero : BusCounters := ⟨0, 0, 0, 0, 0, 0, 0, 0⟩

/-- The Host Serial Link at reset, with its STARTED notice (R187, R197). -/
def Link.reset (cause : StartCause) (straps : Straps) : Link :=
  { ready := false, readyTimer := some 50, receiver := .hunt, gap := none, buffer := [], waiting := none,
    sending := none, transmitter := .idle, notices := [.started { cause := cause, straps := straps, seconds := 0 }],
    mask := { portChange := true, diagDone := true, powerFault := true, refChange := true },
    counters := LinkCounters.zero }

/-- The Power Coordination Port at reset (R166). -/
def Bus.reset : Bus :=
  { phase := .idle, map := [], queue := [], attempt := none, inbound := [], slave := .aside, acks := [], out := [],
    counters := BusCounters.zero }

/-- The block right after a reset with the given cause and strap pins: every block at its reset values (R197,
R199), nothing waiting. -/
def State.resetWith (cause : StartCause) (pins : Straps) : State :=
  { seconds := 0, millis := 0, micros := 0, pins := pins, straps := pins, link := Link.reset cause pins,
    ports := Vector.replicate 48 PortCtx.reset, profiles := Vector.replicate 8 Profile.default,
    lanes := Vector.replicate 6 Lane.reset, slots := Vector.replicate 32 none, admissions := 0, taken := 0,
    engines := Vector.replicate 4 Engine.reset, routes := Vector.replicate 48 .transceiver,
    reference := { present := true, qualify := none, losses := 0 }, jobs := Vector.replicate 4 none,
    store := { records := Vector.replicate 48 none, counter := 0, traces := Vector.replicate 8 none, order := [] },
    bus := Bus.reset, freeCount := 0, pending := [] }

/-- The block right after a power-on reset, with the model's strap levels (R197; log entry 4). -/
def State.reset : State := State.resetWith .powerOn Config.resetStraps

end Sys2Proof.Machine
end

