-- ==== Sys2Proof/Machine/Operands.lean ====
section
/-! DEFINITION. Operand forms: tables by rate and pair, the codes and byte orders of R201, the records that requests
carry with their refusals and clamps (R64, R72, R81), the frame check of R190, and lane words (R206). -/

namespace Sys2Proof.Machine

/-! ### Tables by rate and by pair -/

def PerRate.get {α : Type} (t : PerRate α) : Rate → α
  | .r10G => t.r10G
  | .r5G => t.r5G
  | .r2G5 => t.r2G5
  | .r1G => t.r1G
  | .r100M => t.r100M

def PerRate.set {α : Type} (t : PerRate α) (r : Rate) (x : α) : PerRate α :=
  match r with
  | .r10G => { t with r10G := x }
  | .r5G => { t with r5G := x }
  | .r2G5 => { t with r2G5 := x }
  | .r1G => { t with r1G := x }
  | .r100M => { t with r100M := x }

def PerRate.map {α β : Type} (f : α → β) (t : PerRate α) : PerRate β :=
  { r10G := f t.r10G, r5G := f t.r5G, r2G5 := f t.r2G5, r1G := f t.r1G, r100M := f t.r100M }

/-- From the highest rate to the lowest. -/
def PerRate.toList {α : Type} (t : PerRate α) : List α := [t.r10G, t.r5G, t.r2G5, t.r1G, t.r100M]

def PerPair.get {α : Type} (t : PerPair α) : Pair → α
  | .A => t.a
  | .B => t.b
  | .C => t.c
  | .D => t.d

def PerPair.set {α : Type} (t : PerPair α) (p : Pair) (x : α) : PerPair α :=
  match p with
  | .A => { t with a := x }
  | .B => { t with b := x }
  | .C => { t with c := x }
  | .D => { t with d := x }

def PerPair.map {α β : Type} (f : α → β) (t : PerPair α) : PerPair β :=
  { a := f t.a, b := f t.b, c := f t.c, d := f t.d }

def PerPair.zip {α β γ : Type} (f : α → β → γ) (t : PerPair α) (u : PerPair β) : PerPair γ :=
  { a := f t.a u.a, b := f t.b u.b, c := f t.c u.c, d := f t.d u.d }

def PerPair.toList {α : Type} (t : PerPair α) : List α := [t.a, t.b, t.c, t.d]

/-- A table filled by a function of the pair. -/
def PerPair.ofFn {α : Type} (f : Pair → α) : PerPair α := { a := f .A, b := f .B, c := f .C, d := f .D }

/-- The rates from highest to lowest. -/
def Rate.list : List Rate := [.r10G, .r5G, .r2G5, .r1G, .r100M]

/-- The pairs in the order A, B, C, D. -/
def Pair.list : List Pair := [.A, .B, .C, .D]

/-- A value brought into lo..hi (00_scope, "Clamped to a..b"). -/
def clampNat (lo hi n : Nat) : Nat := if n < lo then lo else if hi < n then hi else n

def clampInt (lo hi n : Int) : Int := if n < lo then lo else if hi < n then hi else n

/-- The least of four margins (R17, R20). -/
def PerPair.least (t : PerPair Int) : Int := min (min t.a t.b) (min t.c t.d)

/-! ### Codes of R201 -/

def Rate.code : Rate → Nat
  | .r10G => 0
  | .r5G => 1
  | .r2G5 => 2
  | .r1G => 3
  | .r100M => 4

def Rate.ofCode : Nat → Option Rate
  | 0 => some .r10G
  | 1 => some .r5G
  | 2 => some .r2G5
  | 3 => some .r1G
  | 4 => some .r100M
  | _ => none

def Pair.code : Pair → Nat
  | .A => 0
  | .B => 1
  | .C => 2
  | .D => 3

def Pair.ofCode : Nat → Option Pair
  | 0 => some .A
  | 1 => some .B
  | 2 => some .C
  | 3 => some .D
  | _ => none

def Admin.code : Admin → Nat
  | .down => 0
  | .up => 1

def PortState.code : PortState → Nat
  | .off => 0
  | .listen => 1
  | .negotiate => 2
  | .train => 3
  | .verify => 4
  | .up => 5
  | .holddown => 6
  | .diagnose => 7
  | .faulted => 8

def Cause.code : Cause → Nat
  | .none => 0
  | .unplugged => 1
  | .loss => 2
  | .margin => 3
  | .timeout => 4
  | .laneDown => 5
  | .retrain => 6
  | .diagnose => 7
  | .cableFault => 8
  | .noRate => 9

def PowerState.code : PowerState → Nat
  | .none => 0
  | .unknown => 1
  | .off => 2
  | .detecting => 3
  | .powered => 4
  | .holdPending => 5
  | .held => 6
  | .fault => 7

def Kind.code : Kind → Nat
  | .full => 0
  | .pair _ => 1
  | .quick => 2
  | .passive => 3

/-- The pair of a PAIR kind, else absent. -/
def Kind.pair? : Kind → Option Pair
  | .pair p => some p
  | _ => none

def Urgency.code : Urgency → Nat
  | .urgent => 0
  | .auto => 1
  | .routine => 2

def Origin.code : Origin → Nat
  | .host => 0
  | .auto => 1

def DiagOutcome.code : DiagOutcome → Nat
  | .complete => 0
  | .passive => 1
  | .cancelled => 2
  | .abortedPower => 3
  | .abortedRef => 4
  | .powerHoldTimeout => 5
  | .powerHoldRefused => 6
  | .powerUnavailable => 7

def Verdict.code : Verdict → Nat
  | .ok => 0
  | .impaired => 1
  | .fault => 2
  | .unterminated => 3
  | .noCable => 4
  | .unknown => 5

def PairStatus.code : PairStatus → Nat
  | .ok => 0
  | .impaired => 1
  | .fault => 2
  | .endOfCable => 3

def FindingKind.code : FindingKind → Nat
  | .openEnd => 0
  | .short => 1
  | .highImpedance => 2
  | .lowImpedance => 3
  | .crossShort => 4

def LengthSource.code : LengthSource → Nat
  | .tdrEnd => 0
  | .insertionLoss => 1

/-- The statuses of R193. -/
inductive Status where
  | ok | accepted | badField | badLength | unknownType | queueFull | tagLimit | notStored | notFound | notCancelled
deriving DecidableEq, Repr

def Status.code : Status → Nat
  | .ok => 0
  | .accepted => 1
  | .badField => 2
  | .badLength => 3
  | .unknownType => 4
  | .queueFull => 5
  | .tagLimit => 6
  | .notStored => 7
  | .notFound => 8
  | .notCancelled => 9

def Warmth.code : Warmth → Nat
  | .cold => 0
  | .warming => 1
  | .warm => 2

def Duty.code : Duty → Nat
  | .free => 0
  | .assigned => 1
  | .routing => 2
  | .capturing => 3
  | .analysing => 4
  | .recovering => 5

def Phase.code : Phase → Nat
  | .queued => 0
  | .assigned _ => 1
  | .complete => 2

def Presence.code : Presence → Nat
  | .unseen => 0
  | .present => 1
  | .lost => 2

def BusPhase.code : BusPhase → Nat
  | .idle => 0
  | .busy => 1
  | .master => 2
  | .stuck => 3

def BusRate.code : BusRate → Nat
  | .k100 => 0
  | .k400 => 1

def LineRate.code : LineRate → Nat
  | .b115200 => 0
  | .b921600 => 1
  | .b3000000 => 2

def TxKind.code : TxKind → Nat
  | .hold => 0
  | .release => 1
  | .poll => 2

def PowerFaultKind.code : PowerFaultKind → Nat
  | .controllerLost => 0
  | .dataRefused => 1
  | .arbitrationLimit => 2
  | .stuckBus => 3

def StartCause.code : StartCause → Nat
  | .powerOn => 0
  | .partReset => 1

/-- The power event codes of R205; any other code is none of the five states. -/
def PowerState.ofEventCode : Nat → Option PowerState
  | 1 => some .off
  | 2 => some .detecting
  | 3 => some .powered
  | 4 => some .held
  | 5 => some .fault
  | _ => Option.none

/-- A yes/no field of a request: 1 yes, 0 no, anything else undefined (R201). -/
def boolOfCode : Nat → Option Bool
  | 0 => some false
  | 1 => some true
  | _ => none

def Averaging.toNat : Averaging → Nat
  | .n1 => 1
  | .n4 => 4
  | .n16 => 16
  | .n64 => 64

/-- Averaging rounded up to an allowed value (R64, R81). -/
def Averaging.round (n : Nat) : Averaging :=
  if n ≤ 1 then .n1 else if n ≤ 4 then .n4 else if n ≤ 16 then .n16 else .n64

/-- The higher of two averagings (R84). -/
def Averaging.higher (x y : Averaging) : Averaging := if x.toNat < y.toNat then y else x

/-- A port number of a request: 0 to 47, else refused. -/
def portOfByte (b : Byte) : Option PortId := if h : b.toNat < 48 then some ⟨b.toNat, h⟩ else none

/-- A profile index of a request: 0 to 7, else refused. -/
def profileOfByte (b : Byte) : Option (Fin 8) := if h : b.toNat < 8 then some ⟨b.toNat, h⟩ else none

/-! ### Byte order and absent values (R201) -/

def byteOf (n : Nat) : Byte := BitVec.ofNat 8 n

/-- Two bytes, the most significant first. -/
def be16 (n : Nat) : List Byte := [byteOf (n / 256), byteOf n]

/-- Four bytes, the most significant first. -/
def be32 (n : Nat) : List Byte := [byteOf (n / 16777216), byteOf (n / 65536), byteOf (n / 256), byteOf n]

/-- A signed field of two bytes, two's complement. -/
def signed16 (z : Int) : List Byte := be16 (BitVec.ofInt 16 z).toNat

/-- The number two bytes hold, the first of them the more significant. -/
def natOfBytes (hi lo : Byte) : Nat := hi.toNat * 256 + lo.toNat

/-- The signed number two bytes hold. -/
def intOfBytes (hi lo : Byte) : Int := (BitVec.ofNat 16 (natOfBytes hi lo)).toInt

def boolByte (b : Bool) : Byte := if b then 1 else 0

/-- An optional one-byte field: all ones when absent. -/
def optByte (x : Option Nat) : Byte := byteOf (x.getD 255)

/-- An optional two-byte field: all ones when absent. -/
def opt16 (x : Option Nat) : List Byte := be16 (x.getD 65535)

/-- An optional four-byte field, or the remaining time of a timer: all ones when absent or stopped. -/
def opt32 (x : Option Nat) : List Byte := be32 (x.getD 4294967295)

/-- An optional signed two-byte field: 0x8000 when absent. -/
def optSigned16 : Option Int → List Byte
  | some z => signed16 z
  | none => [0x80, 0x00]

/-- A rate set as flags: bit 4 for 10G down to bit 0 for 100M. -/
def RateSet.toByte (s : RateSet) : Byte :=
  byteOf ((if s.r10G then 16 else 0) + (if s.r5G then 8 else 0) + (if s.r2G5 then 4 else 0) + (if s.r1G then 2 else 0)
    + (if s.r100M then 1 else 0))

/-- The rates whose flags are set; bits 5 to 7 name no rate. -/
def RateSet.ofByte (b : Byte) : RateSet :=
  { r10G := b.getLsbD 4, r5G := b.getLsbD 3, r2G5 := b.getLsbD 2, r1G := b.getLsbD 1, r100M := b.getLsbD 0 }

/-! ### Policy records (R63, R64, R203) -/

def RawPolicy.toBytes (r : RawPolicy) : List Byte :=
  [r.allowed, r.ceiling, r.k, r.failsLimit] ++ be16 r.trainTimeout.toNat ++ [r.glitchMs, r.flapLimit]
    ++ be16 r.windowS.toNat ++ be16 r.holddownS.toNat ++ be16 r.recheckS.toNat
    ++ [r.autoDiagnose, r.depowerAllowed, r.profile, r.launchOffset, r.averaging]

def halfOf (hi lo : Byte) : Half := BitVec.ofNat 16 (natOfBytes hi lo)

/-- The record of 19 bytes in a PORT_POLICY request. -/
def RawPolicy.ofBytes : List Byte → Option RawPolicy
  | [b0, b1, b2, b3, b4, b5, b6, b7, b8, b9, b10, b11, b12, b13, b14, b15, b16, b17, b18] =>
    some { allowed := b0, ceiling := b1, k := b2, failsLimit := b3, trainTimeout := halfOf b4 b5, glitchMs := b6,
           flapLimit := b7, windowS := halfOf b8 b9, holddownS := halfOf b10 b11, recheckS := halfOf b12 b13,
           autoDiagnose := b14, depowerAllowed := b15, profile := b16, launchOffset := b17, averaging := b18 }
  | _ => none

/-- recheck_s: 0 stays 0, 1 to 9 give 10, above 3600 gives 3600 (R64). -/
def clampRecheck (n : Nat) : Nat := if n = 0 then 0 else clampNat 10 3600 n

/-- The clamped record that a WRITE stores, or `none` where R64 refuses it with BAD_FIELD. -/
def Policy.ofRaw (r : RawPolicy) : Option Policy :=
  if r.allowed = 0 ∨ 32 ≤ r.allowed.toNat then none
  else
    match Rate.ofCode r.ceiling.toNat, boolOfCode r.autoDiagnose.toNat, boolOfCode r.depowerAllowed.toNat,
      profileOfByte r.profile with
    | some ceiling, some auto, some depower, some profile =>
      some { allowed := RateSet.ofByte r.allowed, ceiling := ceiling, k := clampNat 4 64 r.k.toNat,
             failsLimit := clampNat 1 4 r.failsLimit.toNat, trainTimeout := clampNat 500 8000 r.trainTimeout.toNat,
             glitchMs := clampNat 1 50 r.glitchMs.toNat, flapLimit := clampNat 2 20 r.flapLimit.toNat,
             windowS := clampNat 5 600 r.windowS.toNat, holddownS := clampNat 10 3600 r.holddownS.toNat,
             recheckS := clampRecheck r.recheckS.toNat, autoDiagnose := auto, depowerAllowed := depower,
             profile := profile, launchOffset := r.launchOffset.toNat,
             averaging := Averaging.round r.averaging.toNat }
    | _, _, _, _ => none

/-- The record of 19 bytes in a PORT_POLICY reply (R203). -/
def Policy.toBytes (p : Policy) : List Byte :=
  [RateSet.toByte p.allowed, byteOf p.ceiling.code, byteOf p.k, byteOf p.failsLimit] ++ be16 p.trainTimeout
    ++ [byteOf p.glitchMs, byteOf p.flapLimit] ++ be16 p.windowS ++ be16 p.holddownS ++ be16 p.recheckS
    ++ [boolByte p.autoDiagnose, boolByte p.depowerAllowed, byteOf p.profile.val, byteOf p.launchOffset,
        byteOf p.averaging.toNat]

/-! ### Profile entries (R71, R72, R203) -/

def RawProfile.toBytes (r : RawProfile) : List Byte :=
  be16 r.nvp.toNat ++ [r.atten] ++ be16 r.floor.toNat ++ be16 r.hard.toNat ++ be16 r.cross.toNat ++ be16 r.loss.toNat
    ++ [r.reach10G, r.reach5G, r.reach2G5, r.reach1G, r.reach100M]

/-- The entry of 16 bytes in a PROFILE_WRITE request. -/
def RawProfile.ofBytes : List Byte → Option RawProfile
  | [b0, b1, b2, b3, b4, b5, b6, b7, b8, b9, b10, b11, b12, b13, b14, b15] =>
    some { nvp := halfOf b0 b1, atten := b2, floor := halfOf b3 b4, hard := halfOf b5 b6, cross := halfOf b7 b8,
           loss := halfOf b9 b10, reach10G := b11, reach5G := b12, reach2G5 := b13, reach1G := b14, reach100M := b15 }
  | _ => none

/-- Step 2 of R72: every field brought into the range of R71. -/
def Profile.clamped (r : RawProfile) : Profile :=
  { nvp := clampNat 500 900 r.nvp.toNat, atten := clampNat 0 20 r.atten.toNat, floor := clampNat 50 500 r.floor.toNat,
    hard := clampNat 300 950 r.hard.toNat, cross := clampNat 100 900 r.cross.toNat,
    loss := clampNat 500 6000 r.loss.toNat,
    reach := { r10G := clampNat 0 200 r.reach10G.toNat, r5G := clampNat 0 200 r.reach5G.toNat,
               r2G5 := clampNat 0 200 r.reach2G5.toNat, r1G := clampNat 0 200 r.reach1G.toNat,
               r100M := clampNat 0 200 r.reach100M.toNat } }

/-- Steps 2 and 3 of R72: the clamped entry, or `none` where hard is not above floor. -/
def Profile.ofRaw (r : RawProfile) : Option Profile :=
  let e := Profile.clamped r
  if e.floor < e.hard then some e else none

def Profile.toBytes (p : Profile) : List Byte :=
  be16 p.nvp ++ [byteOf p.atten] ++ be16 p.floor ++ be16 p.hard ++ be16 p.cross ++ be16 p.loss
    ++ p.reach.toList.map byteOf

/-! ### The frame check (R190) and frame bytes (section 10.2) -/

/-- One bit of R190: shift left, and combine with 0x1021 when the bit shifted out differs from the data bit. -/
def crcBit (reg : BitVec 16) (bit : Bool) : BitVec 16 :=
  if reg.getLsbD 15 != bit then (reg <<< 1) ^^^ 0x1021#16 else reg <<< 1

/-- One byte of R190, most significant bit first. -/
def crcByte (reg : BitVec 16) (b : Byte) : BitVec 16 :=
  [7, 6, 5, 4, 3, 2, 1, 0].foldl (fun r i => crcBit r (b.getLsbD i)) reg

/-- The register over a list of bytes, from 0xFFFF. -/
def crc16 (bytes : List Byte) : BitVec 16 := bytes.foldl crcByte 0xFFFF#16

/-- The bytes of LEN, TYPE, TAG and payload, over which the check runs. -/
def Frame.body (f : Frame) : List Byte := byteOf f.payload.length :: f.type :: f.tag :: f.payload

/-- The frame on the line: SYNC, the body, and the check with its high byte first. -/
def Frame.lineBytes (f : Frame) : List Byte := 0xC3 :: f.body ++ be16 (crc16 f.body).toNat

/-! ### Lane words (R206) -/

/-- The bytes of a lane command for a local port. -/
def LaneCommand.word (k : Fin 8) : LaneCommand → List Byte
  | .train r => [byteOf (1 * 16 + k.val), byteOf r.code]
  | .renegotiate => [byteOf (2 * 16 + k.val)]
  | .halt => [byteOf (3 * 16 + k.val)]
  | .reconnect => [byteOf (4 * 16 + k.val)]
  | .isolate => [byteOf (5 * 16 + k.val)]

/-- What a received lane word carries. -/
inductive LaneWord where
  | report (r : Report)
  | alive (status : Byte)
deriving DecidableEq, Repr

/-- A margin clamped on arrival (R35). -/
def clampMargin (z : Int) : Int := clampInt (-100) 300 z

/-- The report for a local port from its kind code and body, checked and clamped (R35, R206). DEDUCED (log entry 38): the
two bytes of a LOSS_EST have the high byte first, as R206 shows it of the margins. -/
def reportOfWord (k : Fin 8) (kind : Nat) (body : List Byte) : Option Report :=
  match kind, body with
  | 1, [e] => (boolOfCode e.toNat).map (Report.energy k)
  | 2, [s] => some (.partner k (RateSet.ofByte s))
  | 3, [r] => (Rate.ofCode r.toNat).map (Report.lock k)
  | 4, [] => some (.loss k)
  | 5, [] => some (.restore k)
  | 6, [a1, a0, b1, b0, c1, c0, d1, d0] =>
    some (.margin k { a := clampMargin (intOfBytes a1 a0), b := clampMargin (intOfBytes b1 b0),
                      c := clampMargin (intOfBytes c1 c0), d := clampMargin (intOfBytes d1 d0) })
  | 7, [hi, lo] => some (.lossEst k (clampNat 0 6000 (natOfBytes hi lo)))
  | _, _ => none

/-- A received lane word: `none` where R35 or R206 discards it on arrival. The port field of ALIVE is not examined. -/
def laneWordOfBytes : List Byte → Option LaneWord
  | [] => none
  | header :: body =>
    let kind := header.toNat / 16
    let lp := header.toNat % 16
    if kind = 8 then
      match body with
      | [status] => some (.alive status)
      | _ => none
    else if h : lp < 8 then (reportOfWord ⟨lp, h⟩ kind body).map .report
    else none

/-- The local port a report names. -/
def Report.localPort : Report → Fin 8
  | .energy k _ => k
  | .partner k _ => k
  | .lock k _ => k
  | .loss k => k
  | .restore k => k
  | .margin k _ => k
  | .lossEst k _ => k

/-! ### Power bus transactions (R205) -/

/-- The bytes the part sends after its START; a POLL's repeated START and read address follow the command. -/
def txBytes (address : Nat) (kind : TxKind) (mask : PortMask) : List Byte :=
  match kind with
  | .hold => [byteOf (2 * address), 0x01] ++ be16 mask.toNat ++ [0x05]
  | .release => [byteOf (2 * address), 0x02] ++ be16 mask.toNat
  | .poll => [byteOf (2 * address), 0x03, byteOf (2 * address + 1)]

/-- The part's own bus address: one of 88 to 91 (R166). -/
def Straps.ownAddress (s : Straps) : Nat := 88 + s.address.val

end Sys2Proof.Machine
end

