-- ==== Sys2Proof/Machine/Flags.lean ====
section
/-! DEFINITION. Saturating counters, the notice mask, coalescing (R195, R196), and the conditions several blocks read
from the state: unpowered, free, held back. -/

namespace Sys2Proof.Machine

/-- A counter of 0 to 65535 that holds at 65535 (R166, R187, R123, R51). -/
def satInc16 (n : Nat) : Nat := min (n + 1) 65535

/-- A notice count of 1 to 255 (R32, R186). -/
def satInc8 (n : Nat) : Nat := min (n + 1) 255

/-- The next sequence number: after 4,294,967,295 comes 1 (R80, R154). -/
def nextSeq (n : Nat) : Nat := if n < 4294967295 then n + 1 else 1

/-- Whether the mask lets a notice of this class be queued; STARTED has no flag (R196). -/
def NoticeMask.enables (m : NoticeMask) : Notice → Bool
  | .started _ => true
  | .portChange _ => m.portChange
  | .diagDone _ _ => m.diagDone
  | .powerFault _ => m.powerFault
  | .refChange _ => m.refChange

/-- The mask as the flags byte of NOTICE_MASK (R202). -/
def NoticeMask.toByte (m : NoticeMask) : Byte :=
  byteOf ((if m.portChange then 1 else 0) + (if m.diagDone then 2 else 0) + (if m.powerFault then 4 else 0)
    + (if m.refChange then 8 else 0))

/-- The mask a flags byte sets, or `none` where a flag names no class (R196). -/
def NoticeMask.ofByte (b : Byte) : Option NoticeMask :=
  if b.toNat < 16 then
    some { portChange := b.getLsbD 0, diagDone := b.getLsbD 1, powerFault := b.getLsbD 2, refChange := b.getLsbD 3 }
  else none

/-- The waiting notice and the new one have the same class and subject (R195). DIAG_DONE and STARTED never meet. -/
def Notice.sameSubject : Notice → Notice → Bool
  | .portChange a, .portChange b => a.port == b.port
  | .powerFault _, .powerFault _ => true
  | .refChange _, .refChange _ => true
  | _, _ => false

/-- The waiting notice with the contents of the newer one, its count raised (R32, R126, R186). -/
def Notice.coalesce (old new : Notice) : Notice :=
  match old, new with
  | .portChange a, .portChange b => .portChange { b with count := satInc8 a.count }
  | .powerFault a, .powerFault b => .powerFault { b with count := satInc8 a.count }
  | _, n => n

/-- The queue with the new notice put into the place of the waiting one of its subject, where there is one. -/
def coalesceIn (n : Notice) : List Notice → Option (List Notice)
  | [] => none
  | m :: rest => if m.sameSubject n then some (m.coalesce n :: rest) else (coalesceIn n rest).map (m :: ·)

/-- Power state NONE, OFF or HELD: a port may be routed (R88, R96). -/
def PowerState.unpowered : PowerState → Bool
  | .none => true
  | .off => true
  | .held => true
  | _ => false

/-- The port is in the exhausted wait (R12). -/
def PortCtx.inExhaustedWait (c : PortCtx) : Bool := c.state == .negotiate && c.awaiting

/-- The port is in NEGOTIATE outside the exhausted wait, TRAIN, VERIFY or UP (R14, R23). -/
def PortCtx.bringingUp (c : PortCtx) : Bool :=
  match c.state with
  | .negotiate => !c.awaiting
  | .train => true
  | .verify => true
  | .up => true
  | _ => false

/-- The pass threshold of a rate, in tenths of a dB (R17). -/
def Rate.pass : Rate → Int
  | .r10G => 30
  | .r5G => 25
  | .r2G5 => 20
  | .r1G => 15
  | .r100M => 10

/-- The hold threshold of a rate (R20). -/
def Rate.hold (r : Rate) : Int := r.pass - 10

/-- The rate is the ceiling or lower than it (R9). -/
def Rate.atOrBelow (r ceiling : Rate) : Bool := decide (ceiling.code ≤ r.code)

/-- The order of kinds in a merge: FULL, PAIR, QUICK (R84). -/
def Kind.merge : Kind → Kind → Kind
  | .pair p, .pair q => if p = q then .pair p else .full
  | k, l => if k.code ≤ l.code then k else l

/-- The higher of two classes: URGENT, AUTO, ROUTINE (R84). -/
def Urgency.higher (x y : Urgency) : Urgency := if x.code ≤ y.code then x else y

/-- HOST if either is HOST (R84). -/
def Origin.merge : Origin → Origin → Origin
  | .auto, .auto => .auto
  | _, _ => .host

/-- The stages of a capture, in order (R113). -/
def Kind.stages : Kind → List Pair
  | .full => Pair.list
  | .pair p => [p]
  | .quick => Pair.list
  | .passive => []

/-- The pulses of each stage (R113). -/
def Kind.pulses (k : Kind) (n : Averaging) : Nat :=
  match k with
  | .quick => 1
  | _ => n.toNat

/-- min(20000, floor(IL × 10000 / loss_per_100m_cdB)) (R43, R151). -/
def lengthOfLoss (il lossPer100m : Nat) : Nat := min 20000 (il * 10000 / lossPer100m)

end Sys2Proof.Machine
end

