-- ==== Sys2Proof/Machine/Ops.lean ====
section
/-! DEFINITION. The operations every block shares: reading and updating one entry of a table, the passing of time,
queueing a notice and starting the transmitter (R194, R195), sending a lane command (R34), folding a transaction into
the outbound queue (R171), resetting the part (R197). -/

namespace Sys2Proof.Machine

/-! ### Table entries -/

/-- A table with `f` applied to every entry. -/
def mapVec {α β : Type} {n : Nat} (f : α → β) (v : Vector α n) : Vector β n := ⟨⟨v.toList.map f⟩, by simp⟩

/-- Two tables combined entry by entry. -/
def zipVec {α β γ : Type} {n : Nat} (f : α → β → γ) (v : Vector α n) (w : Vector β n) : Vector γ n :=
  ⟨⟨List.zipWith f v.toList w.toList⟩, by simp⟩

def State.port (s : State) (p : PortId) : PortCtx := s.ports[p]
def State.modPort (s : State) (p : PortId) (f : PortCtx → PortCtx) : State :=
  { s with ports := s.ports.set p (f s.ports[p]) }

def State.lane (s : State) (l : LaneId) : Lane := s.lanes[l]
def State.modLane (s : State) (l : LaneId) (f : Lane → Lane) : State :=
  { s with lanes := s.lanes.set l (f s.lanes[l]) }

def State.engine (s : State) (e : EngineId) : Engine := s.engines[e]
def State.modEngine (s : State) (e : EngineId) (f : Engine → Engine) : State :=
  { s with engines := s.engines.set e (f s.engines[e]) }

def State.slot (s : State) (i : SlotId) : Option Slot := s.slots[i]
def State.setSlot (s : State) (i : SlotId) (x : Option Slot) : State := { s with slots := s.slots.set i x }

def State.route (s : State) (p : PortId) : Route := s.routes[p]
def State.setRoute (s : State) (p : PortId) (r : Route) : State := { s with routes := s.routes.set p r }

def State.job (s : State) (e : EngineId) : Option Job := s.jobs[e]
def State.setJob (s : State) (e : EngineId) (x : Option Job) : State := { s with jobs := s.jobs.set e x }

def State.record (s : State) (p : PortId) : Option Record := s.store.records[p]
def State.traceSlot (s : State) (j : TraceId) : Option TraceSet := s.store.traces[j]
def State.setTrace (s : State) (j : TraceId) (x : Option TraceSet) : State :=
  { s with store := { s.store with traces := s.store.traces.set j x } }

def State.modLink (s : State) (f : Link → Link) : State := { s with link := f s.link }
def State.modBus (s : State) (f : Bus → Bus) : State := { s with bus := f s.bus }

/-- The profile that the port's active policy names, as the table holds it now (R75). -/
def State.profileOf (s : State) (p : PortId) : Profile := s.profiles[(s.port p).active.profile]

/-! ### Time (log entries 2 and 3) -/

/-- A timer after `n` of its units, held at 0 until its expiry is taken. -/
def Timer.after (n : Nat) (t : Timer) : Timer := t.map (· - n)

def PortCtx.after (ticks : Nat) (c : PortCtx) : PortCtx :=
  { c with attempt := c.attempt.after ticks, glitch := c.glitch.after ticks, window := c.window.after ticks,
           holddown := c.holddown.after ticks, recheck := c.recheck.after ticks }

def Engine.after (ticks us : Nat) (e : Engine) : Engine :=
  { e with warmup := e.warmup.after ticks, idle := e.idle.after ticks, step := e.step.after us,
           repetition := e.repetition.after (1000 * us) }

def Retry.after (us : Nat) : Retry → Retry
  | .running n => .running (n - us)
  | .backingOff n => .backingOff (n - us)
  | r => r

def Slave.after (ticks : Nat) : Slave → Slave
  | .stretching g n => .stretching g (n - ticks)
  | p => p

def Bus.after (ticks us : Nat) (b : Bus) : Bus :=
  { b with map := b.map.map fun m => { m with rePoll := m.rePoll.after ticks },
           queue := b.queue.map fun x => { x with retry := x.retry.after us },
           slave := b.slave.after ticks }

/-- `us` microseconds pass: the time base counts, every running timer counts its own unit. -/
def State.elapse (us : Nat) (s : State) : State :=
  if us = 0 then s
  else
    let ticks := (s.micros + us) / 1000
    { s with
      micros := (s.micros + us) % 1000
      millis := (s.millis + ticks) % 1000
      seconds := s.seconds + (s.millis + ticks) / 1000
      link := { s.link with readyTimer := s.link.readyTimer.after ticks, gap := s.link.gap.after ticks }
      ports := mapVec (PortCtx.after ticks) s.ports
      lanes := mapVec (fun l => { l with watch := l.watch.after ticks }) s.lanes
      slots := mapVec (Option.map fun x => { x with holdTimer := x.holdTimer.after ticks }) s.slots
      engines := mapVec (Engine.after ticks us) s.engines
      reference := { s.reference with qualify := s.reference.qualify.after ticks }
      store := { s.store with traces := mapVec (Option.map fun x => { x with hold := x.hold.after ticks })
                                                s.store.traces }
      bus := s.bus.after ticks us }

/-- The microseconds until the tick at which a millisecond timer with `n` left reaches 0. -/
def State.untilTick (s : State) (n : Nat) : Nat := 1000 * n - s.micros

/-- The time that a millisecond timer with `n` left still has to run passes (log entry 3). -/
def State.runOutMs (s : State) (n : Nat) : State := if n = 0 then s else s.elapse (s.untilTick n)

/-- The time that a microsecond timer with `n` left still has to run passes (log entry 3). -/
def State.runOutUs (s : State) (n : Nat) : State := s.elapse n

/-- What a step does when no command waits: one microsecond passes (log entry 2). -/
def State.idleStep (s : State) : State := s.elapse 1

/-! ### The transmitter and the notice queue -/

/-- The transmit arbiter of R194: the waiting reply, else the head notice, else IDLE. -/
def State.arbitrate (s : State) : State :=
  match s.link.waiting with
  | some r => s.modLink fun k => { k with waiting := none, sending := some r, transmitter := .reply }
  | none =>
    match s.link.notices with
    | n :: rest => s.modLink fun k => { k with notices := rest, transmitter := .notice n }
    | [] => s.modLink fun k => { k with transmitter := .idle }

/-- Starts a frame at once when the transmitter is IDLE and the line READY (R194). -/
def State.startIfIdle (s : State) : State :=
  if s.link.ready = true ∧ s.link.transmitter = .idle then s.arbitrate else s

/-- A notice to be queued: masked, coalesced into the waiting notice of its subject, or added at the tail (R195,
R196), which starts an IDLE transmitter. -/
def State.queueNotice (s : State) (n : Notice) : State :=
  if s.link.mask.enables n then
    match coalesceIn n s.link.notices with
    | some q => s.modLink fun k => { k with notices := q }
    | none => (s.modLink fun k => { k with notices := k.notices ++ [n] }).startIfIdle
  else s

/-- A reply is placed in the waiting position, which starts an IDLE transmitter (R192, R194). -/
def State.placeReply (s : State) (r : Reply) : State :=
  (s.modLink fun k => { k with waiting := some r }).startIfIdle

/-! ### Lane commands and port changes -/

/-- The lane that serves a port, and its local index there. -/
def laneOf (p : PortId) : LaneId := ⟨p.val / 8, by omega⟩
def localOf (p : PortId) : Fin 8 := ⟨p.val % 8, by omega⟩
def portAt (l : LaneId) (k : Fin 8) : PortId := ⟨8 * l.val + k.val, by omega⟩

/-- A lane command is sent as its word when the lane is UP and discarded when it is DOWN (R34, R206). -/
def State.sendLane (s : State) (p : PortId) (c : LaneCommand) : State :=
  s.modLane (laneOf p) fun l => if l.up then { l with sent := l.sent ++ [c.word (localOf p)] } else l

/-- The PORT_CHANGE notice of the port as it stands (R32). -/
def State.portChangeOf (s : State) (p : PortId) : Notice :=
  let c := s.port p
  .portChange { port := p, state := c.state, cause := c.cause, admin := c.admin, current := c.current,
                exhausted := c.exhausted, seconds := s.seconds, count := 1 }

/-- A transition of a port: the context changes, and a change of state queues PORT_CHANGE (R32). -/
def State.movePort (s : State) (p : PortId) (f : PortCtx → PortCtx) : State :=
  let t := s.modPort p f
  if (t.port p).state = (s.port p).state then t else t.queueNotice (t.portChangeOf p)

/-! ### The outbound transaction queue -/

/-- The map entry that feeds a port. -/
def MapEntry.feeds (m : MapEntry) (p : PortId) : Bool := decide (m.first ≤ p.val ∧ p.val < m.first + m.count)

def State.controllerOf (s : State) (p : PortId) : Option MapEntry := s.bus.map.find? (·.feeds p)

def State.entryAt (s : State) (address : Nat) : Option MapEntry := s.bus.map.find? (·.address == address)

/-- The mask of one local port. -/
def maskOf (k : Nat) : PortMask := BitVec.ofNat 12 (2 ^ k)

/-- The local ports a mask names, in order. -/
def maskPorts (m : PortMask) : List Nat := (List.range 12).filter fun k => m.getLsbD k

/-- The entry is the one in attempt: the attempt in progress was started for it and its map still stands (R172). -/
def Bus.inAttempt (b : Bus) (address : Nat) (kind : TxKind) : Bool :=
  match b.attempt with
  | some a => !a.orphan && a.address == address && a.kind == kind
  | none => false

/-- The kind that a HOLD or RELEASE takes its ports from (R171). -/
def TxKind.opposite : TxKind → TxKind
  | .hold => .release
  | .release => .hold
  | .poll => .poll

/-- The ports leave the controller's queued entry of the kind; an entry left empty goes, unless it is in attempt. -/
def Bus.unfold (b : Bus) (address : Nat) (kind : TxKind) (ports : PortMask) : Bus :=
  let inAttempt := b.inAttempt address kind
  { b with
    queue := b.queue.filterMap fun x =>
      if x.address = address ∧ x.kind = kind then
        let m := x.mask &&& ~~~ports
        if m = 0 ∧ inAttempt = false then none else some { x with mask := m }
      else some x
    attempt := b.attempt.map fun a => if inAttempt then { a with added := a.added &&& ~~~ports } else a }

/-- The ports join the controller's queued entry of the kind, or a new entry at the tail; ports that join an entry in
attempt count as added during it (R172, log entry 20). -/
def Bus.join (b : Bus) (address : Nat) (kind : TxKind) (ports : PortMask) : Bus :=
  if b.queue.any fun x => x.address == address && x.kind == kind then
    let inAttempt := b.inAttempt address kind
    { b with
      queue := b.queue.map fun x => if x.address = address ∧ x.kind = kind then { x with mask := x.mask ||| ports } else x
      attempt := b.attempt.map fun a => if inAttempt then { a with added := a.added ||| ports } else a }
  else
    { b with queue := b.queue ++ [{ address := address, kind := kind, mask := ports, losses := 0, retry := .ready }] }

/-- A HOLD or RELEASE of one port, folded into the queue (R171). -/
def Bus.request (b : Bus) (address : Nat) (kind : TxKind) (ports : PortMask) : Bus :=
  (b.unfold address kind.opposite ports).join address kind ports

/-- A POLL, absorbed by a queued one or added at the tail (R171). -/
def Bus.requestPoll (b : Bus) (address : Nat) : Bus :=
  if b.queue.any fun x => x.address == address && x.kind == .poll then b
  else { b with queue := b.queue ++ [{ address := address, kind := .poll, mask := 0, losses := 0, retry := .ready }] }

/-- A HOLD or RELEASE naming the port, for the port's controller. -/
def State.requestFor (s : State) (p : PortId) (kind : TxKind) : State :=
  match s.controllerOf p with
  | some m => s.modBus fun b => b.request m.address kind (maskOf (p.val - m.first))
  | none => s

/-- The scheduler sets a port's power state to UNKNOWN as a hold ends; a PRESENT controller is polled (R171). -/
def State.setUnknown (s : State) (p : PortId) : State :=
  let t := s.modPort p fun c => { c with power := .unknown }
  match t.controllerOf p with
  | some m => if m.presence = .present then t.modBus fun b => b.requestPoll m.address else t
  | none => t

/-- A POWER_FAULT is raised (R186). -/
def State.raiseFault (s : State) (kind : PowerFaultKind) (address : Option Nat) : State :=
  s.queueNotice (.powerFault { kind := kind, address := address, count := 1, seconds := s.seconds })

/-- A REF_CHANGE is raised (R126). -/
def State.raiseRefChange (s : State) : State :=
  s.queueNotice (.refChange { present := s.reference.present, losses := s.reference.losses, seconds := s.seconds })

/-! ### Reset -/

/-- Every block at its reset values, the straps sampled from the pins; the queue of commands is not the part's
(R197, R199). -/
def State.resetPart (s : State) (cause : StartCause) : State :=
  { State.resetWith cause s.pins with pending := s.pending }

end Sys2Proof.Machine
end

