-- ==== Sys2Proof/Machine/PortEntries.lean ====
section
/-! DEFINITION. The entries into the port states (chapters 1 and 3), the policy latch (R68, R69), and the exit from
DIAGNOSE (R27, R28). A context function says what an entry does to the Port Context; the State function adds the lane
command and the PORT_CHANGE notice. -/

namespace Sys2Proof.Machine

/-- R68: the pending policy becomes active, the ladder and the flap count are brought into line with it, and in
FAULTED a stopped recheck timer starts (R61, R69). -/
def PortCtx.latch (c : PortCtx) : PortCtx :=
  match c.pendingPolicy with
  | none => c
  | some pol =>
    { c with
      active := pol
      pendingPolicy := none
      fails := c.fails.map (min · pol.failsLimit)
      barred := c.fails.map fun n => decide (pol.failsLimit ≤ n)
      flapCount := if pol.flapLimit ≤ c.flapCount then pol.flapLimit - 1 else c.flapCount
      recheck := if c.state = .faulted ∧ c.recheck = none ∧ pol.recheckS ≠ 0 then some (1000 * pol.recheckS)
        else c.recheck }

/-- Every fail count 0 and no rate barred (R4, R30). -/
def PortCtx.clearLadder (c : PortCtx) : PortCtx := { c with fails := PerRate.all 0, barred := PerRate.all false }

/-- The ladder, neg fail count and exhausted cleared (R14, R27, R28, R30). -/
def PortCtx.clearBringUp (c : PortCtx) : PortCtx := { c.clearLadder with negFails := 0, exhausted := false }

/-- R4: OFF, administratively down, with its clearing. -/
def PortCtx.enterOff (c : PortCtx) : PortCtx :=
  { c.clearBringUp with
    admin := .down, state := .off, cause := .none, awaiting := false, lowStreak := 0, flapCount := 0,
    glitchCount := 0, samples := 0, sum := 0, partner := none, candidate := none, current := none, attempt := none,
    glitch := none, window := none, holddown := none, recheck := none : PortCtx }.latch

/-- R6: LISTEN. The cause is kept where none is given. The verify accumulator is empty at every latch point
(section 4.3; log entry 12). -/
def PortCtx.enterListen (cause : Option Cause) (c : PortCtx) : PortCtx :=
  { c with
    state := .listen, cause := cause.getD c.cause, energy := false, partner := none, candidate := none,
    current := none, attempt := none, glitch := none, holddown := none, recheck := none, awaiting := false,
    samples := 0, sum := 0 : PortCtx }.latch

/-- R8: NEGOTIATE. The latch comes before the verify accumulator is cleared and the attempt timer loaded. -/
def PortCtx.enterNegotiate (cause : Cause) (c : PortCtx) : PortCtx :=
  { ({ c with state := .negotiate, cause := cause : PortCtx }).latch with
    awaiting := false, partner := none, candidate := none, current := none, samples := 0, sum := 0, lowStreak := 0,
    glitch := none, holddown := none, recheck := none, attempt := some 2000 }

/-- R10: TRAIN at the chosen rate. -/
def PortCtx.enterTrain (r : Rate) (c : PortCtx) : PortCtx :=
  { c with state := .train, candidate := some r, current := some r, attempt := some c.active.trainTimeout,
           awaiting := false }

/-- R15, R2: VERIFY after a LOCK at the candidate rate. -/
def PortCtx.enterVerify (c : PortCtx) : PortCtx :=
  { c with state := .verify, negFails := 0, samples := 0, sum := 0,
           attempt := some (c.active.trainTimeout + 20 * c.active.k) }

/-- R19: UP. -/
def PortCtx.enterUp (c : PortCtx) : PortCtx :=
  { c with state := .up, attempt := none, lowStreak := 0, glitch := none }

/-- R24, R54, R58: HOLDDOWN after the flap that reaches the limit. -/
def PortCtx.enterHolddown (c : PortCtx) : PortCtx :=
  { c with state := .holddown, cause := .loss, flapCount := 0, window := some (1000 * c.active.windowS),
           current := none, attempt := none, glitch := none, holddown := some (1000 * c.active.holddownS) }

/-- R29: FAULTED. The latch comes before the recheck timer starts. -/
def PortCtx.enterFaulted (cause : Cause) (c : PortCtx) : PortCtx :=
  let d := { c with recheck := none : PortCtx }.latch
  { d with state := .faulted, cause := cause, attempt := none, glitch := none, holddown := none, current := none,
           awaiting := false, samples := 0, sum := 0,
           recheck := if d.active.recheckS = 0 then none else some (1000 * d.active.recheckS) }

/-- R25: DIAGNOSE. The hold-down and window timers keep running. -/
def PortCtx.enterDiagnose (c : PortCtx) : PortCtx :=
  { c with
    returnInfo := some { admin := c.admin, holddown := c.holddown.getD 0, state := c.state, cause := c.cause }
    attempt := none, glitch := none, recheck := none, cause := .diagnose, current := none, state := .diagnose,
    awaiting := false }

/-- R16: a fail at a rate is counted, the rate is barred at the limit, and the port enters NEGOTIATE. -/
def PortCtx.failAt (r : Rate) (cause : Cause) (c : PortCtx) : PortCtx :=
  let n := c.fails.get r + 1
  { c with fails := c.fails.set r n
           barred := if n = c.active.failsLimit then c.barred.set r true else c.barred : PortCtx }.enterNegotiate cause

/-- R14: an unplug. From UP it also clears the ladder, neg fail count and exhausted. R150 says of the last margins that
R21 keeps: an unplug has discarded them. -/
def PortCtx.unplug (c : PortCtx) : PortCtx :=
  let d := if c.state = .up then c.clearBringUp else c
  { d with insertionLoss := none, length := none, lastMargins := none : PortCtx }.enterListen (some .unplugged)

/-- R13, R22: negotiation restarts within NEGOTIATE. -/
def PortCtx.restartNegotiation (cause : Cause) (c : PortCtx) : PortCtx :=
  { c with cause := cause, partner := none, attempt := some 2000 }

/-- R28: what a verdict does to the port before the exit table is consulted. -/
def PortCtx.applyVerdict (v : Option Verdict) (len : Option LengthEstimate) (c : PortCtx) : PortCtx :=
  match v with
  | none => c
  | some v =>
    let d := if v = .unterminated ∨ v = .noCable then c.clearBringUp else c
    match len with
    | some l => { d with length := some { cm := l.cm, source := .tdrEnd } }
    | none => d

/-! ### State transitions -/

def State.enterOff (s : State) (p : PortId) : State := (s.movePort p .enterOff).sendLane p .halt

def State.enterListen (s : State) (p : PortId) (cause : Option Cause) (reconnect : Bool) : State :=
  let t := s.movePort p (.enterListen cause)
  if reconnect then t.sendLane p .reconnect else t

/-- NEGOTIATE from any state but LISTEN: RENEGOTIATE is sent (R8). -/
def State.enterNegotiate (s : State) (p : PortId) (cause : Cause) : State :=
  (s.movePort p (.enterNegotiate cause)).sendLane p .renegotiate

def State.enterTrain (s : State) (p : PortId) (r : Rate) : State :=
  (s.movePort p (.enterTrain r)).sendLane p (.train r)

def State.enterFaulted (s : State) (p : PortId) (cause : Cause) : State :=
  (s.movePort p (.enterFaulted cause)).sendLane p .halt

def State.enterDiagnose (s : State) (p : PortId) : State :=
  (s.movePort p .enterDiagnose).sendLane p .isolate

/-- A fail at a rate (R16); a port that holds no rate has none to count. -/
def State.failAt (s : State) (p : PortId) (r : Option Rate) (cause : Cause) : State :=
  match r with
  | some r => (s.movePort p (.failAt r cause)).sendLane p .renegotiate
  | none => s.enterNegotiate p cause

def State.unplug (s : State) (p : PortId) : State := s.movePort p .unplug

/-- Where the exit rule of R27 sends a port. -/
inductive Exit where
  | off | faulted (cause : Cause) | listenCleared | holddown | listen
deriving DecidableEq, Repr

/-- The table of R27, read from the top, after R28. -/
def exitOf (v : Option Verdict) (c : PortCtx) : Exit :=
  let entry := c.returnInfo.map (·.state)
  if c.admin = .down then .off
  else if v = some .fault then .faulted .cableFault
  else if entry = some .faulted ∧ v.isSome then .listenCleared
  else if entry = some .faulted then .faulted ((c.returnInfo.map (·.cause)).getD c.cause)
  else if c.exhausted = true ∧ v ≠ some .unterminated ∧ v ≠ some .noCable then .faulted .noRate
  else if 0 < c.holddown.getD 0 then .holddown
  else .listen

/-- R27, R28: the port leaves DIAGNOSE, with the verdict and length of a COMPLETE outcome. -/
def State.exitDiagnose (s : State) (p : PortId) (v : Option Verdict) (len : Option LengthEstimate) : State :=
  let t := s.modPort p (.applyVerdict v len)
  let x := exitOf v (t.port p)
  let u := t.modPort p fun c => { c with returnInfo := none }
  match x with
  | .off => u.enterOff p
  | .faulted cause => u.enterFaulted p cause
  | .listenCleared => (u.modPort p .clearBringUp).enterListen p none true
  | .holddown => (u.movePort p fun c => { c with state := .holddown }).sendLane p .halt
  | .listen => u.enterListen p none true

end Sys2Proof.Machine
end

