-- ==== Sys2Proof/Machine/Analysis.lean ====
section
/-! DEFINITION. The Reflection Analyser (chapter 7): from a job to a result, and the passive result. Exact integer
arithmetic; each definition cites the rule whose rounding it follows. -/

namespace Sys2Proof.Machine

/-- n / d rounded half away from zero, for a positive d (00_scope, Arithmetic). -/
def roundHalfAway (n d : Int) : Int := if 0 ≤ n then (2 * n + d) / (2 * d) else -((2 * (-n) + d) / (2 * d))

/-- s0 = ceil(L0 / 4) + 8 (R131). -/
def searchStart (l0 : Nat) : Nat := (l0 + 3) / 4 + 8

/-- T = max(4, floor(A0 × floor_permille / 3000)) (R132). -/
def threshold (a0 floor : Nat) : Nat := max 4 (a0 * floor / 3000)

/-- The interpolation offset from three neighbouring magnitudes (R134). -/
def offsetOf (a b c : Int) : Int :=
  let den := 2 * (2 * b - a - c)
  if den ≤ 0 then 0 else clampInt (-2) 2 (roundHalfAway (4 * (c - a)) den)

/-- The interpolated position in quarter-samples (R134). -/
def positionOf (i : Nat) (a b c : Int) : Nat := ((4 * (i : Int)) + offsetOf a b c).toNat

/-- The distance of an echo at position q, in cm (R135). -/
def distanceOf (q l0 nvp : Nat) : Nat :=
  if q ≤ l0 then 0 else ((q - l0) * 250 * nvp * 14990 + 500000000) / 1000000000

/-- The gain at a distance, in per-mille (R136). -/
def gainOf (cm atten : Nat) : Nat := min 3000 (1000 + cm * atten / 100)

/-- The reflection coefficient, in per-mille (R137). -/
def rhoOf (w : Int) (gain a0 : Nat) : Int := clampInt (-1000) 1000 (roundHalfAway (w * (gain : Int)) (a0 : Int))

/-- The coupling, in per-mille (R141). -/
def couplingOf (u : Int) (a0 : Nat) : Nat := min 1000 (u.natAbs * 1000 / a0)

/-- The kind of a coefficient, or `none` where it is no finding (R138). -/
def kindOf (rho : Int) (floor hard : Nat) : Option FindingKind :=
  if rho.natAbs < floor then none
  else if (hard : Int) ≤ rho then some .openEnd
  else if rho ≤ -(hard : Int) then some .short
  else if 0 < rho then some .highImpedance
  else some .lowImpedance

/-- OPEN or SHORT: the pulse does not travel on (R139). -/
def FindingKind.ends : FindingKind → Bool
  | .openEnd => true
  | .short => true
  | _ => false

/-- OPEN, SHORT or CROSS_SHORT (R145). -/
def FindingKind.isFault : FindingKind → Bool
  | .openEnd => true
  | .short => true
  | .crossShort => true
  | _ => false

/-- The working trace: capture minus baseline (R130). -/
def workingTrace (v b : Trace) : Trace := zipVec (· - ·) v b

/-- The constants of one own-channel search. -/
structure Search where
  pair : Pair
  quick : Bool
  a0 : Nat
  profile : Profile
  launchOffset : Nat
  clip : Bool
deriving DecidableEq, Repr

/-- A finding with what the order of R144 needs: its index of origin. -/
structure Echo where
  finding : Finding
  origin : Nat
deriving DecidableEq, Repr

/-- The fall test: the first later magnitude that differs is smaller (R133). The list runs to index 1,279. -/
def fallsAfter (m : Nat) : List Int → Bool
  | [] => false
  | x :: rest => if x.natAbs = m then fallsAfter m rest else decide (x.natAbs < m)

/-- The three tests of R133 on the sample `w` at index `i`, after `prev` and before `rest`. -/
def isCandidate (t : Nat) (atOpen : Bool) (prev w : Int) (rest : List Int) : Bool :=
  decide (t ≤ w.natAbs) && (if atOpen then decide (prev.natAbs ≤ w.natAbs) else decide (prev.natAbs < w.natAbs))
    && fallsAfter w.natAbs rest

/-- The finding of a candidate, or `none` (R134 to R138). -/
def Search.echoAt (q : Search) (i : Nat) (prev w next : Int) : Option Echo :=
  let pos := positionOf i prev.natAbs w.natAbs next.natAbs
  let cm := distanceOf pos q.launchOffset q.profile.nvp
  let rho := rhoOf w (gainOf cm q.profile.atten) q.a0
  (kindOf rho q.profile.floor q.profile.hard).map fun k =>
    { finding := { pair := q.pair, kind := k, distance := cm, rho := rho, saturated := q.clip, partner := none }
      origin := i }

/-- The own-channel search of R133, R139 and R140 from index `i` on, with the open index `o` and the sample before `i`. -/
def Search.run (q : Search) (prev : Int) (i o : Nat) : List Int → List Echo
  | [] => []
  | w :: rest =>
    if 1278 < i then []
    else if i < o then q.run w (i + 1) o rest
    else if isCandidate (threshold q.a0 q.profile.floor) (i == o) prev w rest then
      match q.echoAt i prev w (rest.headD 0) with
      | none => q.run w (i + 1) o rest
      | some e =>
        if e.finding.kind.ends then [e]
        else if q.quick then q.run w (i + 1) o rest
        else e :: q.run w (i + 1) (i + 12) rest
    else q.run w (i + 1) o rest

/-- The sample at an index of a trace. -/
def sampleAt (t : Trace) (i : Nat) : Int := t.toList.getD i 0

/-- The own findings of one stage. -/
def Search.findings (q : Search) (w : Trace) : List Echo :=
  let s0 := searchStart q.launchOffset
  q.run (sampleAt w (s0 - 1)) s0 s0 (w.toList.drop s0)

/-- The peak of a cross working trace: its index, its neighbours and its value (R141). -/
structure Peak where
  index : Nat
  before : Int
  value : Int
  after : Int
deriving DecidableEq, Repr

/-- The first index up to 1,278 of largest magnitude (R141). -/
def peakFrom (best : Peak) (prev : Int) (i : Nat) : List Int → Peak
  | [] => best
  | u :: rest =>
    if 1278 < i then best
    else if best.value.natAbs < u.natAbs then
      peakFrom { index := i, before := prev, value := u, after := rest.headD 0 } u (i + 1) rest
    else peakFrom best u (i + 1) rest

/-- The peak of the window from s0 (R141). A trace of zeros has its peak at s0. -/
def crossPeak (l0 : Nat) (u : Trace) : Peak :=
  let s0 := searchStart l0
  peakFrom { index := s0, before := sampleAt u (s0 - 1), value := sampleAt u s0, after := sampleAt u (s0 + 1) }
    (sampleAt u s0) (s0 + 1) (u.toList.drop (s0 + 1))

/-- The cross working traces of a stage, with their channels (R130). -/
def JobStage.cross (g : JobStage) : List (Pair × Trace) :=
  (Pair.list.filter (· ≠ g.pair)).map fun y => (y, workingTrace (g.capture.get y) (g.baseline.get y))

/-- The CROSS_SHORT from the stage's pair to `y`, where the coupling makes one (R142). -/
def crossShortOf (j : Job) (g : JobStage) (y : Pair) (u : Trace) : Option Echo :=
  let pk := crossPeak j.snapshot.launchOffset u
  let c := couplingOf pk.value j.a0
  if j.snapshot.profile.cross ≤ c ∧ (j.kind = .full → g.pair.code < y.code) then
    let pos := positionOf pk.index pk.before.natAbs pk.value.natAbs pk.after.natAbs
    some { finding := { pair := g.pair, kind := .crossShort
                        distance := distanceOf pos j.snapshot.launchOffset j.snapshot.profile.nvp
                        rho := if pk.value < 0 then -(c : Int) else (c : Int)
                        saturated := g.clip.get y, partner := some y }
           origin := pk.index }
  else none

/-- The largest of the three couplings of a stage (R141). -/
def largestCoupling (j : Job) (g : JobStage) : Nat :=
  (g.cross.map fun yu => couplingOf (crossPeak j.snapshot.launchOffset yu.2).value j.a0).foldl max 0

/-- R144: nearer first, then the lower index of origin, then own findings before CROSS_SHORTs, then the partner. -/
def Echo.before (x y : Echo) : Bool :=
  let key (e : Echo) : Nat × Nat × Nat :=
    (e.finding.distance, e.origin, match e.finding.partner with | none => 0 | some p => p.code + 1)
  let kx := key x
  let ky := key y
  decide (kx.1 < ky.1) || (kx.1 == ky.1 && (decide (kx.2.1 < ky.2.1) || (kx.2.1 == ky.2.1 && decide (kx.2.2 < ky.2.2))))

def insertEcho (x : Echo) : List Echo → List Echo
  | [] => [x]
  | y :: rest => if y.before x then y :: insertEcho x rest else x :: y :: rest

def sortEchoes (l : List Echo) : List Echo := l.foldr insertEcho []

/-- The own findings of a job's stage (R130, R139). -/
def ownEchoes (j : Job) (g : JobStage) : List Echo :=
  let q : Search := { pair := g.pair, quick := j.kind == .quick, a0 := j.a0, profile := j.snapshot.profile,
                      launchOffset := j.snapshot.launchOffset, clip := g.clip.get g.pair }
  q.findings (workingTrace (g.capture.get g.pair) (g.baseline.get g.pair))

/-- All findings of a stage's pair in the order of R144: its own, and the CROSS_SHORTs no farther than an OPEN or
SHORT of its own (R143). A QUICK makes no CROSS_SHORT (R140). -/
def stageFindings (j : Job) (g : JobStage) : List Finding :=
  let own := ownEchoes j g
  let cross := if j.kind = .quick then [] else g.cross.filterMap fun yu => crossShortOf j g yu.1 yu.2
  let kept := cross.filter fun x =>
    !(own.any fun o => o.finding.kind.ends && decide (o.finding.distance < x.finding.distance))
  (sortEchoes (own ++ kept)).map (·.finding)

/-- R145, before the verdict. -/
def statusOf (fs : List Finding) : PairStatus :=
  if fs.any (·.kind.isFault) then .fault else if fs.isEmpty then .ok else .impaired

/-- A pair that was not pulsed. -/
def PairResult.absent : PairResult :=
  { status := none, findings := [], truncated := false, coupling := none, saturated := false, margin := none }

/-- What the analysis of one stage gives: every finding kept, in order, and the pair's result before the verdict. -/
structure Measured where
  pair : Pair
  all : List Finding
  result : PairResult
  trace : Trace
deriving DecidableEq, Repr

/-- The work on one stage (R128 steps 1 and 2; R144, R145). -/
def measureStage (j : Job) (g : JobStage) : Measured :=
  let fs := stageFindings j g
  { pair := g.pair, all := fs
    result := { status := some (statusOf fs), findings := fs.take 3, truncated := decide (3 < fs.length)
                coupling := if j.kind = .quick then none else some (largestCoupling j g)
                saturated := g.clip.get g.pair, margin := none }
    trace := workingTrace (g.capture.get g.pair) (g.baseline.get g.pair) }

/-- The distance of the OPEN that ends a findings list (R146). -/
def openEnd (fs : List Finding) : Option Nat :=
  match fs.getLast? with
  | some f => if f.kind = .openEnd then some f.distance else none
  | none => none

/-- The OPEN distances where every measured pair's list ends in an OPEN (R146, R148). -/
def openEnds : List Measured → Option (List Nat)
  | [] => some []
  | m :: rest =>
    match openEnd m.result.findings, openEnds rest with
    | some d, some ds => some (d :: ds)
    | _, _ => none

/-- A SHORT or CROSS_SHORT among the findings, counting those the truncation discards (R146). -/
def anyShort (ms : List Measured) : Bool := ms.any fun m => m.all.any fun f => f.kind == .short || f.kind == .crossShort

/-- The test of R146 on the measured pairs; it answers the floored mean distance. -/
def unterminated (ms : List Measured) : Option Nat :=
  match openEnds ms with
  | none => none
  | some ds =>
    if ds ≠ [] ∧ ds.foldl max 0 - ds.foldl min (ds.headD 0) ≤ 100 ∧ anyShort ms = false then some (ds.sum / ds.length)
    else none

/-- The worst of a list of statuses, in the order FAULT, IMPAIRED, OK (R148). -/
def worstVerdict (l : List PairStatus) : Verdict :=
  if l.any (· == .fault) then .fault else if l.any (· == .impaired) then .impaired else .ok

/-- The verdict and the length of a measurement (R146 to R148). -/
def verdictOf (ms : List Measured) : Verdict × Option LengthEstimate :=
  match unterminated ms with
  | some cm => (if cm < 100 then .noCable else .unterminated, some { cm := cm, source := .tdrEnd })
  | none =>
    let v := worstVerdict (ms.filterMap (·.result.status))
    (v, if v = .fault then (openEnds ms).map fun ds => { cm := ds.foldl max 0, source := .tdrEnd } else none)

/-- The result of a pair: absent where it was not pulsed, END where the cable is unterminated (R145, R146). -/
def pairResultOf (ms : List Measured) (p : Pair) : PairResult :=
  match ms.find? (·.pair == p) with
  | none => .absent
  | some m => if (unterminated ms).isSome then { m.result with status := some .endOfCable } else m.result

/-- The whole analysis: a function of the job and the slot's averaging alone (R128, R129). -/
def analyse (j : Job) (averaging : Averaging) : Result :=
  let ms := j.stages.map (measureStage j)
  let vl := verdictOf ms
  { kind := j.kind, profile := j.snapshot.index, averaging := averaging, lowLaunch := j.lowLaunch, verdict := vl.1
    length := vl.2
    pairs := PerPair.ofFn (pairResultOf ms)
    traces := PerPair.ofFn fun p =>
      if j.kind = .quick then none else (ms.find? (·.pair == p)).map (·.trace) }

/-- The passive result, from the port context and the profile its active policy names (R150, R151). -/
def passiveResult (c : PortCtx) (profile : Profile) (averaging : Averaging) : Result :=
  let pairOf (p : Pair) : PairResult :=
    match c.lastMargins with
    | none => .absent
    | some m =>
      let z := m.margins.get p
      { PairResult.absent with
        status := some (if m.rate.pass ≤ z then .ok else .impaired), margin := some z }
  { kind := .passive, profile := c.active.profile, averaging := averaging, lowLaunch := false
    verdict := match c.lastMargins with
      | none => .unknown
      | some _ => worstVerdict (Pair.list.filterMap fun p => (pairOf p).status)
    length := c.insertionLoss.map fun il => { cm := lengthOfLoss il profile.loss, source := .insertionLoss }
    pairs := PerPair.ofFn pairOf, traces := PerPair.all none }

end Sys2Proof.Machine
end

