-- ==== Sys2Proof/Machine/Records.lean ====
section
/-! DEFINITION. The Record Store (chapter 8): storing a result, choosing a trace slot, holds on trace slots. -/

namespace Sys2Proof.Machine

/-- The lowest-numbered slot whose trace set passes a test. -/
def RecordStore.findTrace (st : RecordStore) (f : TraceSet → Bool) : Option TraceId :=
  (List.finRange 8).find? fun j => match st.traces[j] with
    | some t => f t
    | none => false

/-- The lowest-numbered free slot. -/
def RecordStore.freeTrace (st : RecordStore) : Option TraceId := (List.finRange 8).find? fun j => st.traces[j] = none

/-- The port's non-stale slot; there is at most one (R157). -/
def RecordStore.freshOf (st : RecordStore) (p : PortId) : Option TraceId := st.findTrace fun t => t.port == p && !t.stale

/-- The port's held slot; there is at most one (R157). -/
def RecordStore.heldOf (st : RecordStore) (p : PortId) : Option TraceId := st.findTrace fun t => t.port == p && t.held

/-- Step 3 of R159: the slot earliest in the order of writing that is neither held nor stale. -/
def RecordStore.evictable (st : RecordStore) : Option TraceId :=
  st.order.find? fun j => match st.traces[j] with
    | some t => !t.held && !t.stale
    | none => false

/-- A trace set is written into a slot, which takes the last place in the order of writing (R158). -/
def RecordStore.put (st : RecordStore) (j : TraceId) (t : TraceSet) : RecordStore :=
  { st with traces := st.traces.set j (some t), order := st.order.filter (· ≠ j) ++ [j] }

/-- The slot is marked stale (R159 step 2). -/
def RecordStore.markStale (st : RecordStore) (j : TraceId) : RecordStore :=
  { st with traces := st.traces.set j (st.traces[j].map fun t => { t with stale := true }) }

/-- Steps 2 and 3 of R159; where no slot qualifies the set is dropped. -/
def RecordStore.placeElsewhere (st : RecordStore) (t : TraceSet) : RecordStore × Bool :=
  match st.freeTrace with
  | some j => (st.put j t, false)
  | none =>
    match st.evictable with
    | some j => (st.put j t, false)
    | none => (st, true)

/-- R159, R160: the write of a trace set, and whether it was dropped. -/
def RecordStore.write (st : RecordStore) (t : TraceSet) : RecordStore × Bool :=
  match st.freshOf t.port with
  | some j =>
    match st.traces[j] with
    | some old => if old.held then (st.markStale j).placeElsewhere t else (st.put j t, false)
    | none => st.placeElsewhere t
  | none => st.placeElsewhere t

/-- R165: a slot is freed and leaves the order of writing. -/
def RecordStore.free (st : RecordStore) (j : TraceId) : RecordStore :=
  { st with traces := st.traces.set j none, order := st.order.filter (· ≠ j) }

/-- R163: a hold ends; a stale slot is freed at once. -/
def RecordStore.endHold (st : RecordStore) (j : TraceId) : RecordStore :=
  match st.traces[j] with
  | some t =>
    if t.stale then st.free j
    else { st with traces := st.traces.set j (some { t with held := false, hold := none }) }
  | none => st

/-- R162: a hold is placed or renewed. -/
def RecordStore.placeHold (st : RecordStore) (j : TraceId) : RecordStore :=
  { st with traces := st.traces.set j (st.traces[j].map fun t => { t with held := true, hold := some 1000 }) }

/-- The slot a TRACE_PAGE reads: the port's held slot, else its non-stale one (R161). -/
def RecordStore.readable (st : RecordStore) (p : PortId) : Option TraceId :=
  match st.heldOf p with
  | some j => some j
  | none => st.freshOf p

/-- FULL and PAIR results write traces (R158). -/
def Kind.writesTraces : Kind → Bool
  | .full => true
  | .pair _ => true
  | _ => false

/-- R153: a result is stored for a port, with the receipt for the scheduler. -/
def RecordStore.store (st : RecordStore) (seconds : Nat) (p : PortId) (r : Result) : RecordStore × StoreReceipt :=
  let n := nextSeq st.counter
  let counted := { st with counter := n }
  let written := if r.kind.writesTraces then
      counted.write { port := p, seq := n, kind := r.kind, traces := r.traces, held := false, hold := none, stale := false }
    else (counted, false)
  let rec0 : Record :=
    { seq := n, stamp := seconds, kind := r.kind, profile := r.profile, averaging := r.averaging,
      lowLaunch := r.lowLaunch, traceDropped := written.2, verdict := r.verdict, length := r.length, pairs := r.pairs }
  ({ written.1 with records := written.1.records.set p (some rec0) },
    { seq := n, verdict := r.verdict, traceDropped := written.2 })

/-- The result is given to the Record Store (step 4 of R98; R83). -/
def State.storeResult (s : State) (p : PortId) (r : Result) : State × StoreReceipt :=
  let x := s.store.store s.seconds p r
  ({ s with store := x.1 }, x.2)

/-- R155: a non-stale slot holds the traces of the port's record. -/
def State.tracesAvailable (s : State) (p : PortId) (rec : Record) : Bool :=
  (s.store.findTrace fun t => t.port == p && !t.stale && t.seq == rec.seq).isSome

end Sys2Proof.Machine
end

