-- ==== Sys2Proof/Machine/Scheduler.lean ====
section
/-! DEFINITION. The Measurement Scheduler (chapter 5) and what it asks of the engines and the matrix (chapter 6):
admission, the grant scan, the power hold, routing, completion. -/

namespace Sys2Proof.Machine

/-! ### Finding slots -/

def State.findSlot (s : State) (f : Slot → Bool) : Option SlotId :=
  (List.finRange 32).find? fun i => match s.slot i with
    | some x => f x
    | none => false

/-- The port's QUEUED slot; there is at most one (R79). -/
def State.queuedSlot (s : State) (p : PortId) : Option SlotId := s.findSlot fun x => x.port == p && x.phase == .queued

def Phase.isAssigned : Phase → Bool
  | .assigned _ => true
  | _ => false

/-- The port's ASSIGNED slot; there is at most one (R79). -/
def State.assignedSlot (s : State) (p : PortId) : Option SlotId := s.findSlot fun x => x.port == p && x.phase.isAssigned

/-- The slot that an engine serves. -/
def State.slotOfEngine (s : State) (e : EngineId) : Option SlotId := s.findSlot fun x => x.phase == .assigned e

/-- The lowest-numbered free slot. -/
def State.freeSlot (s : State) : Option SlotId := (List.finRange 32).find? fun i => s.slot i = none

/-- The port holds a slot in QUEUED or ASSIGNED other than `i` (R12, R99). -/
def State.otherWaiting (s : State) (i : SlotId) (p : PortId) : Bool :=
  (List.finRange 32).any fun j => j != i && match s.slot j with
    | some x => x.port == p && x.phase != .complete
    | none => false

/-- The port holds a slot in QUEUED or ASSIGNED (R11). -/
def State.holdsSlot (s : State) (p : PortId) : Bool := (s.queuedSlot p).isSome || (s.assignedSlot p).isSome

/-- R80: one slot stands ahead of another, by class and then by age. -/
def Slot.ahead (x y : Slot) : Bool :=
  decide (x.urgency.code < y.urgency.code) || (x.urgency.code == y.urgency.code && decide (x.age < y.age))

def insertSlot (i : SlotId) (x : Slot) : List (SlotId × Slot) → List (SlotId × Slot)
  | [] => [(i, x)]
  | (j, y) :: rest => if y.ahead x then (j, y) :: insertSlot i x rest else (i, x) :: (j, y) :: rest

/-- The QUEUED slots in grant order (R80). -/
def State.grantOrder (s : State) : List SlotId :=
  ((List.finRange 32).foldl (fun acc i => match s.slot i with
    | some x => if x.phase = .queued then insertSlot i x acc else acc
    | none => acc) []).map (·.1)

/-- The lowest-numbered FREE engine that is WARM, else the lowest-numbered FREE engine (R89). -/
def State.freeEngine (s : State) : Option EngineId :=
  match (List.finRange 4).find? fun e => (s.engine e).duty == .free && (s.engine e).warmth == .warm with
  | some e => some e
  | none => (List.finRange 4).find? fun e => (s.engine e).duty == .free

/-! ### Engines: warm-up, routing, freeing, abort -/

/-- R105: the warm-up starts. DESIGN CHOICE (log entry 40): with an empty stage store, accumulator and pulse pair. -/
def Engine.startWarmup (c : Engine) : Engine :=
  { c with warmth := .warming, warmup := some 20, accumulator := PerPair.all Trace.zero, clip := PerPair.all false,
           launched := 0, stages := [], pulsePair := none }

/-- R89, R76: the engine takes its slot, snapshot and averaging. -/
def Engine.assign (c : Engine) (port : PortId) (seq : Nat) (snap : Snapshot) (n : Averaging) : Engine :=
  { c with duty := .assigned, idle := none, slot := some { port := port, seq := seq }, snapshot := some snap,
           averaging := some n }

/-- R111: the port is connected and the matrix settles for 200 µs. -/
def Engine.startRouting (c : Engine) : Engine :=
  { c with duty := .routing, pulsePair := none, accumulator := PerPair.all Trace.zero, clip := PerPair.all false,
           launched := 0, stages := [], step := some 200 }

/-- R98 step 1: FREE, with the snapshot discarded; a WARM engine starts its idle timer (R109). A warm-up in progress goes
on with the self-baseline stages it has (R108; DESIGN CHOICE, log entry 40). -/
def Engine.freed (c : Engine) : Engine :=
  { c with duty := .free, slot := none, snapshot := none, averaging := none,
           idle := if c.warmth = .warm then some 2000 else c.idle }

/-- R118: the engine is freed at the end of its analysis, with its stage store emptied. -/
def Engine.finished (c : Engine) : Engine := { c.freed with stages := [], step := none }

/-- R119: the abort of an engine in ROUTING or CAPTURING. -/
def Engine.aborted (c : Engine) (refLoss : Bool) : Engine :=
  { c with duty := if refLoss then .free else .recovering, slot := none, snapshot := none, averaging := none,
           repetition := none, step := if refLoss then none else some 50, accumulator := PerPair.all Trace.zero,
           clip := PerPair.all false, launched := 0, stages := [], pulsePair := none }

/-- R108, R109, R123: the engine becomes COLD; a warm-up in progress is abandoned with its baseline capture. -/
def Engine.cooled (c : Engine) : Engine :=
  let d := { c with warmth := .cold, baselines := none, a0 := none, lowLaunch := false, idle := none, warmup := none }
  if c.warmth = .warming then
    { d with step := none, repetition := none, accumulator := PerPair.all Trace.zero, clip := PerPair.all false,
             launched := 0, stages := [], pulsePair := none }
  else d

/-- R96, R111, R25: the port enters DIAGNOSE and the matrix connects it to the engine. -/
def State.routePort (s : State) (p : PortId) (e : EngineId) : State :=
  ((s.enterDiagnose p).setRoute p (.engine e)).modEngine e .startRouting

/-- R96: the slot is routed where its engine is WARM and waiting and its port unpowered. -/
def State.routeTest (s : State) (i : SlotId) : State :=
  match s.slot i with
  | some x =>
    match x.phase with
    | .assigned e =>
      if (s.engine e).warmth = .warm ∧ (s.engine e).duty = .assigned ∧ (s.port x.port).power.unpowered = true then
        s.routePort x.port e
      else s
    | _ => s
  | none => s

/-! ### Completion (R98) -/

/-- Where a slot stands, read from its phase and its engine's duty (R95). -/
inductive SlotStage where
  | queued | waiting (e : EngineId) | routed (e : EngineId) | analysing (e : EngineId) | done
deriving DecidableEq, Repr

def State.stageOf (s : State) (x : Slot) : SlotStage :=
  match x.phase with
  | .queued => .queued
  | .complete => .done
  | .assigned e =>
    match (s.engine e).duty with
    | .routing => .routed e
    | .capturing => .routed e
    | .analysing => .analysing e
    | _ => .waiting e

/-- The engine that serves the slot. -/
def SlotStage.engine? : SlotStage → Option EngineId
  | .waiting e => some e
  | .routed e => some e
  | .analysing e => some e
  | _ => none

/-- The slot's port is in DIAGNOSE because of it. -/
def SlotStage.wasRouted : SlotStage → Bool
  | .routed _ => true
  | .analysing _ => true
  | _ => false

/-- Step 1. -/
def State.completeEngine (s : State) (g : SlotStage) (refLoss : Bool) : State :=
  match g with
  | .waiting e => s.modEngine e .freed
  | .routed e => s.modEngine e (·.aborted refLoss)
  | .analysing e => (s.modEngine e .finished).setJob e none
  | _ => s

/-- Step 2. -/
def State.completeRoute (s : State) (p : PortId) (g : SlotStage) : State :=
  match g with
  | .routed _ => s.setRoute p .transceiver
  | _ => s

/-- Step 3: the hold that the ASSIGNED slot answers for is released (log entries 14 and 15). -/
def State.completeHold (s : State) (p : PortId) (g : SlotStage) : State :=
  if g.engine?.isSome ∧ (s.port p).holdOwned = true then
    let t := (s.requestFor p .release).modPort p fun c => { c with holdOwned := false }
    if (t.port p).power = .holdPending ∨ (t.port p).power = .held then t.setUnknown p else t
  else s

/-- Step 4: the result, where there is one, is stored. -/
def State.completeRecord (s : State) (p : PortId) (res : Option Result) : State × Option StoreReceipt :=
  match res with
  | some r => let x := s.storeResult p r; (x.1, some x.2)
  | none => (s, none)

/-- Step 5 (R99). -/
def State.completePort (s : State) (i : SlotId) (p : PortId) (g : SlotStage) (outcome : DiagOutcome)
    (res : Option Result) : State :=
  if g.wasRouted then
    if outcome = .complete then s.exitDiagnose p (res.map (·.verdict)) (res.bind (·.length))
    else s.exitDiagnose p none none
  else if (s.port p).inExhaustedWait ∧ s.otherWaiting i p = false then s.enterFaulted p .noRate
  else s

/-- The DIAG_DONE of a slot (R100). -/
def State.diagDoneOf (s : State) (x : Slot) (outcome : DiagOutcome) (e : Option EngineId)
    (rc : Option StoreReceipt) : DiagDone :=
  { port := x.port, outcome := outcome, seq := x.seq, kind := x.kind, urgency := x.urgency, averaging := x.averaging,
    origin := x.origin, engine := e, tags := x.tags, receipt := rc, seconds := s.seconds }

/-- Step 6: COMPLETE, with one DIAG_DONE; where the class is masked the slot is released at once (R100, R101). -/
def State.completeSlot (s : State) (i : SlotId) (x : Slot) (outcome : DiagOutcome) (e : Option EngineId)
    (rc : Option StoreReceipt) : State :=
  if s.link.mask.diagDone then
    (s.setSlot i (some { x with phase := .complete, outcome := some outcome, receipt := rc, holdTimer := none })).queueNotice
      (.diagDone i (s.diagDoneOf x outcome e rc))
  else s.setSlot i none

/-- Steps 1 to 6 of R98. A PASSIVE outcome makes the slot's kind PASSIVE (R90). -/
def State.completeCore (s : State) (i : SlotId) (outcome : DiagOutcome) (res : Option Result) (refLoss : Bool) : State :=
  match s.slot i with
  | none => s
  | some x =>
    let g := s.stageOf x
    let y := if outcome = .passive then { x with kind := .passive } else x
    let t := ((s.completeEngine g refLoss).completeRoute x.port g).completeHold x.port g
    let u := t.completeRecord x.port res
    (u.1.completePort i x.port g outcome res).completeSlot i y outcome g.engine? u.2

/-! ### The grant scan (R87, R88) -/

/-- R89: the engine is assigned to the slot, and a COLD engine starts its warm-up if the reference is present. -/
def State.assign (s : State) (i : SlotId) (x : Slot) (e : EngineId) : State :=
  let c := s.port x.port
  let snap : Snapshot :=
    { index := c.active.profile, profile := s.profileOf x.port, launchOffset := c.active.launchOffset }
  let t := (s.setSlot i (some { x with phase := .assigned e })).modEngine e (·.assign x.port x.seq snap x.averaging)
  if (s.engine e).warmth = .cold ∧ s.reference.present = true then t.modEngine e .startWarmup else t

/-- R91: a hold is requested for the slot's port. -/
def State.requestHold (s : State) (i : SlotId) (p : PortId) : State :=
  let t := (s.requestFor p .hold).modPort p fun c => { c with power := .holdPending, holdOwned := true }
  t.setSlot i ((t.slot i).map fun x => { x with holdTimer := some 500 })

/-- R90, R150: the passive result of a port as it stands. -/
def State.passiveFor (s : State) (p : PortId) (n : Averaging) : Result := passiveResult (s.port p) (s.profileOf p) n

/-- R88: what the scan does with one QUEUED slot. -/
def State.considerSlot (s : State) (i : SlotId) : State :=
  match s.slot i with
  | none => s
  | some x =>
    if x.phase ≠ .queued ∨ (s.assignedSlot x.port).isSome then s
    else
      let c := s.port x.port
      if c.power.unpowered then
        match s.freeEngine with
        | some e => (s.assign i x e).routeTest i
        | none => s
      else if c.power = .powered ∧ c.active.depowerAllowed = false then
        s.completeCore i .passive (some (s.passiveFor x.port x.averaging)) false
      else if c.power = .powered ∧ (s.controllerOf x.port).map (·.presence) = some .present then
        match s.freeEngine with
        | some e => (s.assign i x e).requestHold i x.port
        | none => s
      else s

/-- R88: the walk over the QUEUED slots in grant order, once from the head. -/
def State.grantScan (s : State) : State := s.grantOrder.foldl State.considerSlot s

/-- R98 whole: the steps, then the scan. -/
def State.complete (s : State) (i : SlotId) (outcome : DiagOutcome) (res : Option Result) (refLoss : Bool) : State :=
  (s.completeCore i outcome res refLoss).grantScan

/-! ### Admission (section 5.2) -/

/-- A request that has passed its checks (R81, R82). -/
structure Ask where
  port : PortId
  kind : Kind
  urgency : Urgency
  averaging : Averaging
  force : Bool
  origin : Origin
  tag : Option Nat
deriving DecidableEq, Repr

inductive Disposition where
  | queued | merged | passive
deriving DecidableEq, Repr

/-- What becomes of a request; an admitted one names its slot, as it stands after the handling (R86). -/
inductive Admission where
  | admitted (d : Disposition) (x : Slot)
  | tableFull
  | tagLimit
deriving DecidableEq, Repr

/-- R83: the cases in which a request is served passively at once. -/
def State.servedPassively (s : State) (a : Ask) : Bool :=
  let c := s.port a.port
  a.kind == .passive || (c.state == .up && !a.force) || (c.power == .powered && !c.active.depowerAllowed)

/-- The slot a request takes (R83, R85). -/
def State.newSlot (s : State) (a : Ask) (kind : Kind) : Slot :=
  { phase := .queued, port := a.port, kind := kind, urgency := a.urgency, averaging := a.averaging, force := a.force,
    origin := a.origin, tags := a.tag.toList, seq := nextSeq s.admissions, age := s.taken, holdTimer := none,
    outcome := none, receipt := none }

/-- The admission counter rises as a slot is taken (R80). -/
def State.countAdmission (s : State) : State :=
  { s with admissions := nextSeq s.admissions, taken := s.taken + 1 }

/-- R84: the merged slot. -/
def Slot.mergeAsk (x : Slot) (a : Ask) : Slot :=
  { x with kind := x.kind.merge a.kind, urgency := x.urgency.higher a.urgency,
           averaging := x.averaging.higher a.averaging, force := x.force || a.force, origin := x.origin.merge a.origin,
           tags := x.tags ++ a.tag.toList }

/-- The slot as it stands after the handling; one released meanwhile is answered as it was taken. -/
def State.slotNow (s : State) (i : SlotId) (x : Slot) : Slot := (s.slot i).getD x

/-- R83: passive service at admission. -/
def State.admitPassive (s : State) (a : Ask) : State × Admission :=
  match s.freeSlot with
  | none => (s, .tableFull)
  | some i =>
    let x := s.newSlot a .passive
    let r := s.storeResult a.port (s.passiveFor a.port a.averaging)
    let done := { x with phase := .complete, outcome := some .passive, receipt := some r.2 }
    (r.1.countAdmission.completeSlot i x .passive none (some r.2), .admitted .passive done)

/-- R81 to R85: the admission of a checked request. -/
def State.admitAsk (s : State) (a : Ask) : State × Admission :=
  if s.servedPassively a then s.admitPassive a
  else
    match s.queuedSlot a.port with
    | some i =>
      match s.slot i with
      | some x =>
        if a.tag.isSome ∧ 4 ≤ x.tags.length then (s, .tagLimit)
        else
          let y := x.mergeAsk a
          let t := (s.setSlot i (some y)).grantScan
          (t, .admitted .merged (t.slotNow i y))
      | none => (s, .tableFull)
    | none =>
      match s.freeSlot with
      | none => (s, .tableFull)
      | some i =>
        let x := s.newSlot a a.kind
        let t := (s.countAdmission.setSlot i (some x)).grantScan
        (t, .admitted .queued (t.slotNow i x))

/-- R82: the part's own request for a port. -/
def State.offerAuto (s : State) (p : PortId) (kind : Kind) : State × Admission :=
  s.admitAsk { port := p, kind := kind, urgency := .auto, averaging := (s.port p).active.averaging, force := false,
               origin := .auto, tag := none }

/-! ### Power state changes (R92, R94, R95) -/

/-- The slot's hold timer stops (R92). -/
def State.stopHoldTimer (s : State) (i : SlotId) : State :=
  s.setSlot i ((s.slot i).map fun x => { x with holdTimer := none })

/-- R95: what the scheduler does with an ASSIGNED slot when its port's power state has changed from `old`. -/
def State.powerChanged (s : State) (p : PortId) (old : PowerState) : State :=
  match s.assignedSlot p with
  | none => s
  | some i =>
    match s.slot i with
    | none => s
    | some x =>
      let analysing := match s.stageOf x with
        | .analysing _ => true
        | _ => false
      let stop (t : State) (o : DiagOutcome) : State := if analysing then t else t.complete i o none false
      let disown := s.modPort p fun c => { c with holdOwned := false }
      match (s.port p).power with
      | .held => (if old = .holdPending then s.stopHoldTimer i else s).routeTest i
      | .off => (if old = .holdPending then s.stopHoldTimer i else s).routeTest i
      | .none => if (s.port p).holdOwned then stop disown .powerUnavailable else s.routeTest i
      | .unknown => stop disown .powerUnavailable
      | .powered => stop s .abortedPower
      | .detecting => stop s .abortedPower
      | .fault => if old = .holdPending then stop disown .powerHoldRefused else stop s .abortedPower
      | .holdPending => s

/-- R184: an event of a power state for a port, with the scan that a change runs. -/
def State.applyPower (s : State) (p : PortId) (new : PowerState) : State :=
  let old := (s.port p).power
  if old = new ∨ (old = .holdPending ∧ (new = .detecting ∨ new = .powered)) then s
  else ((s.modPort p fun c => { c with power := new }).powerChanged p old).grantScan

/-- R169 step 3, R176 step 3: every power state is set, then the scheduler acts on each change and each runs its scan
(log entry 13). -/
def State.setPowers (s : State) (f : PortId → Option PowerState) : State :=
  let changed := (List.finRange 48).filter fun p => match f p with
    | some new => (s.port p).power != new
    | none => false
  let t := changed.foldl (fun t p => t.modPort p fun c => { c with power := (f p).getD c.power }) s
  changed.foldl (fun t p => (t.powerChanged p (s.port p).power).grantScan) t

/-- R94 acts on a port whose slot is ASSIGNED with hold owned. -/
def State.ownsHold (s : State) (p : PortId) : Bool := (s.assignedSlot p).isSome && (s.port p).holdOwned

/-- R94 for one port of a failed HOLD (log entry 17 for a slot that is no longer in its hold wait). -/
def State.holdFailed (s : State) (outcome : DiagOutcome) (p : PortId) : State :=
  match s.assignedSlot p with
  | none => s
  | some i =>
    match s.slot i with
    | none => s
    | some x =>
      if (s.port p).holdOwned then
        let t := (s.modPort p fun c => { c with holdOwned := false }).setUnknown p
        match s.stageOf x with
        | .analysing _ => t.grantScan
        | _ => t.complete i outcome none false
      else s

/-- The end of a wholly transmitted DIAG_DONE releases its slot (R101). -/
def State.releaseSlot (s : State) (i : SlotId) : State :=
  match s.slot i with
  | some x => if x.phase = .complete then s.setSlot i none else s
  | none => s

end Sys2Proof.Machine
end

