-- ==== Sys2Proof/Machine/Qualification.lean ====
section
/-! DEFINITION. The Qualification Controller and the Stability Monitor (chapters 1 to 3): what a taken report, a timer
expiry and a lane event do to a port. -/

namespace Sys2Proof.Machine

/-! ### Exhaustion and negotiation (R9 to R13) -/

/-- R11: the port is exhausted. -/
def State.becomeExhausted (s : State) (p : PortId) : State :=
  let t := s.modPort p fun c => { c with exhausted := true, attempt := none }
  if (t.port p).active.autoDiagnose then
    let u := t.offerAuto p .full
    match u.2 with
    | .admitted .passive _ => u.1.enterFaulted p .noRate
    | .tableFull => u.1.enterFaulted p .noRate
    | .tagLimit => u.1.enterFaulted p .noRate
    | .admitted _ _ =>
      if (u.1.port p).state = .negotiate then
        if u.1.holdsSlot p then (u.1.modPort p fun c => { c with awaiting := true }).sendLane p .halt
        else u.1.enterFaulted p .noRate
      else u.1
  else t.enterFaulted p .noRate

/-- R13: a negotiation timeout. -/
def State.negotiationTimeout (s : State) (p : PortId) : State :=
  let n := (s.port p).negFails + 1
  let t := s.modPort p fun c => { c with negFails := min n 3, cause := .timeout }
  if 3 ≤ n then t.becomeExhausted p
  else (t.modPort p (.restartNegotiation .timeout)).sendLane p .renegotiate

/-- The tests of R9 on one rate. -/
def PortCtx.passes (c : PortCtx) (profile : Profile) (rates : RateSet) (r : Rate) : Bool :=
  rates.get r && c.active.allowed.get r && r.atOrBelow c.active.ceiling && !c.barred.get r
    && decide (profile.reach.get r ≠ 0)
    && match c.length with
      | none => true
      | some l => decide (l.cm ≤ profile.reach.get r * 100)

/-- R9: the highest rate that passes every test. -/
def PortCtx.choose (c : PortCtx) (profile : Profile) (rates : RateSet) : Option Rate :=
  Rate.list.find? (c.passes profile rates)

/-! ### Taken reports (R39, R40) -/

/-- R39, R38: the head report leaves the FIFO, which may give ready again. -/
def State.popReport (s : State) (l : LaneId) : State :=
  s.modLane l fun x =>
    { x with fifo := x.fifo.tail, ready := if x.fifo.length = 16 then true else x.ready }

/-- R7. -/
def State.actEnergy (s : State) (p : PortId) (present : Bool) : State :=
  let c := s.port p
  if c.state = .diagnose then s
  else if present = false ∧ c.bringingUp = true then s.unplug p
  else
    let t := s.modPort p fun c => { c with energy := present }
    if present = true ∧ c.state = .listen then t.movePort p fun c => c.enterNegotiate c.cause else t

/-- R9. -/
def State.actPartner (s : State) (p : PortId) (rates : RateSet) : State :=
  let c := s.port p
  if c.state = .negotiate ∧ c.awaiting = false then
    let t := s.modPort p fun c => { c with partner := some rates }
    match c.choose (s.profileOf p) rates with
    | some r => t.enterTrain p r
    | none => t.becomeExhausted p
  else s

/-- R15. -/
def State.actLock (s : State) (p : PortId) (r : Rate) : State :=
  let c := s.port p
  if c.state = .train then
    if c.candidate = some r then s.movePort p .enterVerify else s.failAt p c.candidate .loss
  else s

/-- R15, R18, R41, R50. -/
def State.actLoss (s : State) (p : PortId) : State :=
  let c := s.port p
  match c.state with
  | .train => s.failAt p c.candidate .loss
  | .verify => s.failAt p c.current .loss
  | .up => if c.glitch = none then s.modPort p fun c => { c with glitch := some c.active.glitchMs } else s
  | _ => s

/-- R41, R51. -/
def State.actRestore (s : State) (p : PortId) : State :=
  let c := s.port p
  if c.state = .up ∧ c.glitch ≠ none then
    s.modPort p fun c => { c with glitch := none, glitchCount := satInc16 c.glitchCount }
  else s

/-- R17: a verify sample, and the decision at the K-th. -/
def State.verifySample (s : State) (p : PortId) (r : Rate) (z : Int) : State :=
  let t := s.modPort p fun c => { c with samples := c.samples + 1, sum := c.sum + z }
  let c := t.port p
  if c.active.k ≤ c.samples then
    if r.pass ≤ c.sum.fdiv c.active.k then t.movePort p .enterUp else t.failAt p (some r) .margin
  else t

/-- R20: the low-streak test in UP. -/
def State.streakSample (s : State) (p : PortId) (r : Rate) (z : Int) : State :=
  let t := s.modPort p fun c => { c with lowStreak := if z < r.hold then c.lowStreak + 1 else 0 }
  if 8 ≤ (t.port p).lowStreak then t.failAt p (some r) .margin else t

/-- R42: last margins are recorded with the current rate, and the least of the four is used as the state requires. -/
def State.actMargin (s : State) (p : PortId) (m : PerPair Int) : State :=
  match (s.port p).current with
  | none => s
  | some r =>
    let t := s.modPort p fun c => { c with lastMargins := some { margins := m, rate := r } }
    match (s.port p).state with
    | .verify => t.verifySample p r m.least
    | .up => t.streakSample p r m.least
    | _ => s

/-- R43. -/
def State.actLossEst (s : State) (p : PortId) (il : Nat) : State :=
  let c := s.port p
  if c.state = .verify ∨ c.state = .up then
    s.modPort p fun c =>
      { c with insertionLoss := some il
               length := some { cm := lengthOfLoss il (s.profileOf p).loss, source := .insertionLoss } }
  else s

/-! ### Lanes going DOWN and UP (R23, R45, R46) -/

/-- R23 for one port. -/
def State.laneDownPort (s : State) (p : PortId) : State :=
  if (s.port p).bringingUp then s.enterListen p (some .laneDown) false
  else s.modPort p fun c => { c with energy := false }

/-- R45. DESIGN CHOICE (log entry 29): the eight ports move in the order of their local index, 0 to 7. -/
def State.laneDown (s : State) (l : LaneId) : State :=
  let t := s.modLane l fun x => { x with up := false, watch := none, fifo := [], ready := true }
  (List.finRange 8).foldl (fun t k => t.laneDownPort (portAt l k)) t

/-- The command that matches a port's state when its lane comes UP (R46). -/
def PortCtx.resend (c : PortCtx) : Option LaneCommand :=
  match c.state with
  | .off => some .halt
  | .listen => some .reconnect
  | .negotiate => if c.awaiting then some .halt else none
  | .holddown => some .halt
  | .faulted => some .halt
  | .diagnose => some .isolate
  | _ => none

/-- R46, with the watch loaded (R44). -/
def State.laneUp (s : State) (l : LaneId) : State :=
  let t := s.modLane l fun x => { x with up := true, watch := some 300 }
  (List.finRange 8).foldl (fun t k =>
    match (t.port (portAt l k)).resend with
    | some c => t.sendLane (portAt l k) c
    | none => t) t

/-- R44, R47: an ALIVE report taken by the watch; any status but RUNNING (1) and RESTARTED (2) is discarded (R35). -/
def State.takeAlive (s : State) (l : LaneId) (status : Byte) : State :=
  if status.toNat = 1 ∨ status.toNat = 2 then
    if (s.lane l).up then
      if status.toNat = 2 then (s.laneDown l).laneUp l
      else s.modLane l fun x => { x with watch := some 300 }
    else s.laneUp l
  else s

/-- R37: the MARGIN of a port replaced in place, where the FIFO holds one. -/
def replaceMargin (k : Fin 8) (m : PerPair Int) : List Report → Option (List Report)
  | [] => none
  | r :: rest =>
    match r with
    | .margin k' _ => if k' = k then some (.margin k m :: rest) else (replaceMargin k m rest).map (r :: ·)
    | _ => (replaceMargin k m rest).map (r :: ·)

/-- R36, R38: a report at the tail of a FIFO with room, which withdraws ready at 16. -/
def Lane.addTail (x : Lane) (r : Report) : Lane :=
  if x.fifo.length < 16 then
    { x with fifo := x.fifo ++ [r], ready := if x.fifo.length = 15 then false else x.ready }
  else x

/-- R36 to R38: a checked report joins the FIFO. -/
def Lane.offer (x : Lane) (r : Report) : Lane :=
  match r with
  | .margin k m =>
    match replaceMargin k m x.fifo with
    | some q => { x with fifo := q }
    | none => x.addTail r
  | _ => x.addTail r

/-- R35: a lane word arrives. -/
def State.laneArrival (s : State) (l : LaneId) (word : List Byte) : State :=
  match laneWordOfBytes word with
  | none => s
  | some (.alive status) => s.takeAlive l status
  | some (.report r) => if (s.lane l).up then s.modLane l (·.offer r) else s

/-! ### Flaps and the recheck -/

/-- R59: the AUTO FULL of a hold-down entry. -/
def State.offerHolddown (s : State) (p : PortId) : State :=
  if (s.port p).active.autoDiagnose then (s.offerAuto p .full).1 else s

/-- R52, R54: a flap is counted. -/
def State.countFlap (s : State) (p : PortId) : State :=
  let c := s.port p
  if c.flapCount + 1 < c.active.flapLimit then
    (s.modPort p fun c => { c with flapCount := c.flapCount + 1 }).enterNegotiate p .loss
  else
    ((s.movePort p .enterHolddown).sendLane p .halt).offerHolddown p

/-- R57. -/
def PortCtx.windowExpires (c : PortCtx) : PortCtx :=
  { c with flapCount := 0, window := some (1000 * c.active.windowS) }

/-- R61, R29: the recheck timer is reloaded or stopped, then AUTO QUICK is offered. -/
def State.recheckExpires (s : State) (p : PortId) : State :=
  ((s.modPort p fun c =>
    { c with recheck := if c.active.recheckS = 0 then none else some (1000 * c.active.recheckS) }).offerAuto p .quick).1

/-! ### Administration (R3 to R5, R22, R30) -/

/-- R3. -/
def State.adminUp (s : State) (p : PortId) : State :=
  let c := s.port p
  if c.admin = .up then s
  else
    let t := s.modPort p fun c => { c with admin := .up, window := some (1000 * c.active.windowS) }
    if c.state = .off then t.enterListen p none true else t

/-- R4, R5. -/
def State.adminDown (s : State) (p : PortId) : State :=
  match (s.port p).state with
  | .off => s
  | .diagnose => s.modPort p fun c => { c with admin := .down, window := none }
  | _ => s.enterOff p

/-- R22: whether PORT_RETRAIN acts in the port's state. -/
def PortCtx.retrains (c : PortCtx) : Bool := c.bringingUp

/-- R22. -/
def State.retrain (s : State) (p : PortId) : State :=
  let c := s.port p
  if c.retrains then
    if c.state = .negotiate then (s.modPort p (.restartNegotiation .retrain)).sendLane p .renegotiate
    else s.enterNegotiate p .retrain
  else s

/-- R30. -/
def State.ladderClear (s : State) (p : PortId) : State :=
  let t := s.modPort p .clearBringUp
  if (s.port p).state = .faulted then t.enterListen p none true else t

end Sys2Proof.Machine
end

