-- ==== Sys2Proof/Machine/PowerBus.lean ====
section
/-! DEFINITION. The Power Coordination Port (chapter 9): the bus state, the attempts of the head transaction and their
outcomes, the re-poll, and the slave side. The replacement of the map (R168, R169) is here too. -/

namespace Sys2Proof.Machine

open Host (Outcome)

/-! ### Counters and map entries -/

def Bus.count (b : Bus) (f : BusCounters → BusCounters) : Bus := { b with counters := f b.counters }

/-- The map with one controller's entry changed. -/
def Bus.modEntry (b : Bus) (address : Nat) (f : MapEntry → MapEntry) : Bus :=
  { b with map := b.map.map fun m => if m.address = address then f m else m }

/-! ### The end of a transfer -/

/-- What follows the end of another master's transfer for the head entry: its backoff starts to run (R178). -/
def Retry.afterEnd : Retry → Retry
  | .afterStop 0 => .ready
  | .afterStop n => .backingOff n
  | r => r

/-- The backoff that an entry's loss count calls for, from the next STOP (R173, R178). -/
def backoff (losses : Nat) : Retry := .afterStop (100 * losses)

/-- The head entry changed. -/
def Bus.modHead (b : Bus) (f : OutEntry → OutEntry) : Bus :=
  match b.queue with
  | x :: rest => { b with queue := f x :: rest }
  | [] => b

/-- A transfer of another master is over: the bus is IDLE, a partial event is discarded (R182; log entry 19). -/
def Bus.transferEnds (b : Bus) : Bus :=
  ({ b with phase := .idle, slave := .aside }).modHead fun x => { x with retry := x.retry.afterEnd }

/-- R167, R173, R178: a START by another master, or its repeated START (DEDUCED, log entry 27). A backoff that was running
is counted again from the STOP of this transfer. DESIGN CHOICE (log entry 41): a repeated START makes the part listen and
answer again by R181, also after a refused byte, a placed event or another address. -/
def Bus.startSeen (b : Bus) : Bus :=
  match b.phase with
  | .idle =>
    ({ b with phase := .busy, slave := .listening, acks := [] }).modHead fun x =>
      match x.retry with
      | .backingOff _ => { x with retry := backoff x.losses }
      | _ => x
  | .busy => { b with slave := .listening, acks := [] }
  | _ => b

/-- The entry an attempt leaves behind: an empty HOLD or RELEASE goes (R172). -/
def OutEntry.survives (x : OutEntry) : Bool := x.kind == .poll || x.mask != 0

/-- R172 Retry: the entry stays at the head with a retry time, unless its mask became empty. -/
def Bus.retryHead (b : Bus) (r : Retry) : Bus :=
  match b.queue with
  | x :: rest => { b with attempt := none, queue := if x.survives then { x with retry := r } :: rest else rest }
  | [] => { b with attempt := none }

/-- R172 Drop: the entry is removed. -/
def Bus.dropHead (b : Bus) : Bus := { b with attempt := none, queue := b.queue.tail }

/-- R172 Success: the ports sent leave the mask, those added during the attempt stay (log entry 20). -/
def Bus.succeedHead (b : Bus) (a : Attempt) : Bus :=
  match b.queue with
  | x :: rest =>
    let y := { x with mask := x.mask &&& (~~~a.sent ||| a.added), losses := 0, retry := .ready }
    { b with attempt := none, queue := if a.kind = .poll ∨ y.mask = 0 then rest else y :: rest }
  | [] => { b with attempt := none }

/-- An acknowledged address sets the controller's count to 0 (R174, R175). -/
def Bus.acked (b : Bus) (address : Nat) : Bus := b.modEntry address fun m => { m with nacks := 0 }

/-! ### Attempts -/

/-- The port count of a controller, 0 for an address outside the map. -/
def Bus.portCount (b : Bus) (address : Nat) : Nat := ((b.map.find? (·.address = address)).map (·.count)).getD 0

/-- R172, R173: the head entry's attempt starts on a free bus. Its bytes are those of the mask as it stands now
(R174, R205); what is folded in later leaves them as they are. -/
def Bus.startAttempt (b : Bus) : Bus :=
  match b.queue with
  | x :: _ =>
    ({ b with phase := .master, slave := .aside, acks := [], out := txBytes x.address x.kind x.mask
              attempt := some { address := x.address, kind := x.kind, count := b.portCount x.address, sent := x.mask,
                                added := 0, orphan := false } }).modHead
      fun x => { x with retry := .ready }
  | [] => b

/-- R174, R205: the acknowledge bits that the part answers to the state bytes of a POLL, all but the last
acknowledged; a HOLD or RELEASE reads no byte. -/
def Attempt.readAcks (a : Attempt) : List Bool :=
  match a.kind with
  | .poll => (List.range a.count).map fun k => decide (k + 1 < a.count)
  | _ => []

/-- R174: what makes a transfer a success on the reading side: a POLL has read one state byte for each port of the
controller, as many as it had ports at the START (log entry 25). -/
def Attempt.readWhole (a : Attempt) (bytes : List Byte) : Bool := a.kind != .poll || bytes.length == a.count

/-- R173: the part withdraws before its START; the entry waits for the STOP of the other master's transfer. -/
def Bus.withdraw (b : Bus) : Bus :=
  ({ b with phase := .busy, slave := .listening, acks := [] }).modHead fun x => { x with retry := backoff x.losses }

/-- R184, R174: the state bytes of a POLL. DESIGN CHOICE (log entry 35): byte `k` is that of local port `k`, and the
bytes are applied in that order, each with its scan before the next. -/
def State.applyStates (s : State) (first : Nat) (k : Nat) : List Byte → State
  | [] => s
  | b :: rest =>
    let t :=
      if h : first + k < 48 then
        match PowerState.ofEventCode b.toNat with
        | some x => s.applyPower ⟨first + k, h⟩ x
        | none => s
      else s
    t.applyStates first (k + 1) rest

/-- R174: the effects of a successful POLL: the controller PRESENT, its ports' states, and the scan that a presence
becoming PRESENT runs (R87). -/
def State.pollSucceeds (s : State) (address : Nat) (bytes : List Byte) : State :=
  match s.entryAt address with
  | none => s
  | some m =>
    let t := s.modBus fun b => b.modEntry address fun m => { m with presence := .present, rePoll := none }
    let u := t.applyStates m.first 0 bytes
    if m.presence = .present then u else u.grantScan

/-- R174: the transaction in attempt succeeds. The part has acknowledged the state bytes of a POLL as the rule says,
in an orphaned attempt too, which runs to its STOP (R169). -/
def State.transactionSucceeds (s : State) (a : Attempt) (bytes : List Byte) : State :=
  if a.orphan then s.modBus fun b => { b with phase := .idle, attempt := none, acks := b.acks ++ a.readAcks }
  else
    let t := s.modBus fun b =>
      ({ (b.succeedHead a) with phase := .idle, acks := b.acks ++ a.readAcks }).acked a.address
    match a.kind with
    | .poll => t.pollSucceeds a.address bytes
    | _ => t

/-- The ports of a controller's local mask. -/
def MapEntry.portsOf (m : MapEntry) (mask : PortMask) : List PortId :=
  (maskPorts mask).filterMap fun k => if h : m.first + k < 48 then some ⟨m.first + k, h⟩ else none

/-- R94, R177, R179: a HOLD was refused or dropped; the slots of the ports sent that own a hold at the drop complete one
by one. R172: a port that left the mask during the attempt owns none then, so R94 does not act on it, whatever an earlier
port's scan grants it. DESIGN CHOICE (log entry 30): in ascending local port order, each with its own UNKNOWN, completion and scan while the later ports
are still HOLD_PENDING. -/
def State.holdsFailed (s : State) (a : Attempt) (outcome : DiagOutcome) : State :=
  match s.entryAt a.address with
  | none => s
  | some m => ((m.portsOf a.sent).filter s.ownsHold).foldl (fun t p => t.holdFailed outcome p) s

/-- R176: the controller is lost. -/
def State.loseController (s : State) (address : Nat) : State :=
  match s.entryAt address with
  | none => s
  | some m =>
    let t := s.modBus fun b =>
      (({ b with queue := b.queue.filter (·.address ≠ address), attempt := none }).modEntry address fun m =>
        { m with presence := .lost, nacks := 0, rePoll := some 1000 }).count
        fun c => { c with dropped := satInc16 c.dropped }
    (t.setPowers fun p => if m.feeds p then some .unknown else none).raiseFault .controllerLost (some address)

/-- R175: an address NACK, of the second address of a POLL where `second` is yes. -/
def State.addressNacked (s : State) (a : Attempt) (second : Bool) : State :=
  if a.orphan then s.modBus fun b => { b with phase := .idle, attempt := none }
  else
    let t := s.modBus fun b =>
      ({ b with phase := .idle }).count fun c => { c with addressNacks := satInc16 c.addressNacks }
    match t.entryAt a.address with
    | none => t.modBus fun b => b.retryHead (.running 1000)
    | some m =>
      let n := (if second then 0 else m.nacks) + 1
      if n < 3 then
        t.modBus fun b => (b.retryHead (.running 1000)).modEntry a.address fun m => { m with nacks := n }
      else if m.presence = .lost then
        t.modBus fun b => (b.dropHead.acked a.address).count fun c => { c with dropped := satInc16 c.dropped }
      else t.loseController a.address

/-- R177: a data NACK. -/
def State.dataNacked (s : State) (a : Attempt) : State :=
  if a.orphan then s.modBus fun b => { b with phase := .idle, attempt := none }
  else
    let t := s.modBus fun b =>
      (({ b.dropHead with phase := .idle }).acked a.address).count
        fun c => { c with dataNacks := satInc16 c.dataNacks, dropped := satInc16 c.dropped }
    match a.kind with
    | .hold => t.holdsFailed a .powerHoldRefused
    | _ => t.raiseFault .dataRefused (some a.address)

/-! ### The slave side (section 9.5) -/

/-- R181: an address byte is answered. -/
def Bus.addressByte (b : Bus) (own : Nat) (byte : Byte) : Bus :=
  let write := byte.toNat % 2 = 0
  let general := byte.toNat = 0
  if (byte.toNat / 2 = own ∧ write) ∨ general then
    if b.inbound.length < 4 then
      { b with slave := if general then .general else .event [], acks := b.acks ++ [true] }
    else { b with slave := .stretching general 10 }
  else { b with slave := .aside, acks := b.acks ++ [false] }

/-- R181: a place was freed while the part stretches; it acknowledges the address. -/
def Bus.endStretch (b : Bus) : Bus :=
  match b.slave with
  | .stretching general _ =>
    if b.inbound.length < 4 then
      { b with slave := if general then .general else .event [], acks := b.acks ++ [true] }
    else b
  | _ => b

/-- A byte is refused: the transfer is discarded and no further byte acknowledged (R182, R185). -/
def Bus.refuseByte (b : Bus) : Bus :=
  ({ b with slave := .aside, acks := b.acks ++ [false] }).count fun c => { c with bytesRefused := satInc16 c.bytesRefused }

/-- A byte of an EVENT is acknowledged. -/
def Bus.takeByte (b : Bus) (got : List Byte) : Bus := { b with slave := .event got, acks := b.acks ++ [true] }

/-- An entry is placed in the inbound buffer with its last byte acknowledged; what follows is not (R182, R185). -/
def Bus.placeInbound (b : Bus) (x : Inbound) : Bus :=
  { b with slave := .aside, inbound := b.inbound ++ [x], acks := b.acks ++ [true] }

/-- R182: one data byte of a write to the part's own address. -/
def Bus.eventByte (b : Bus) (byte : Byte) : Bus :=
  match b.slave with
  | .event [] => if b.map.any (·.address == byte.toNat) then b.takeByte [byte] else b.refuseByte
  | .event [src] =>
    match b.map.find? (·.address == src.toNat) with
    | some m => if byte.toNat < m.count then b.takeByte [src, byte] else b.refuseByte
    | none => b.refuseByte
  | .event (src :: lp :: _) =>
    match PowerState.ofEventCode byte.toNat with
    | some x =>
      (b.placeInbound (.event src.toNat lp.toNat x)).count fun c => { c with accepted := satInc16 c.accepted }
    | none => b.refuseByte
  | _ => { b with acks := b.acks ++ [false] }

/-- R185: one data byte after the general call address. -/
def Bus.generalByte (b : Bus) (byte : Byte) : Bus :=
  match b.slave with
  | .general => if byte.toNat = 0x5A then b.placeInbound .allPowerDown else b.refuseByte
  | _ => { b with acks := b.acks ++ [false] }

/-- R178: arbitration is lost; the part receives the rest of the byte as a slave. -/
def Bus.loseArbitration (b : Bus) (own : Nat) (addressByte : Option Byte) : Bus :=
  let c := { b with phase := .busy, slave := .aside, acks := [] }
  match addressByte with
  | some byte => c.addressByte own byte
  | none => c

/-- R178, R179: the loss of arbitration of the transaction in attempt. DESIGN CHOICE (log entry 37): at the eighth loss
of a HOLD its slots complete first, each with its DIAG_DONE and its scan, and POWER_FAULT is raised after them. -/
def State.arbitrationLost (s : State) (a : Attempt) (addressAcked : Bool) (addressByte : Option Byte) : State :=
  let own := Straps.ownAddress s.straps
  if a.orphan then s.modBus fun b => ({ b with attempt := none }).loseArbitration own addressByte
  else
    let t := s.modBus fun b =>
      let c := (b.loseArbitration own addressByte).count fun c =>
        { c with arbitrationLosses := satInc16 c.arbitrationLosses }
      let d := if addressAcked then c.acked a.address else c
      d.modHead fun x => { x with losses := x.losses + 1 }
    let n := (t.bus.queue.headD { address := 0, kind := .poll, mask := 0, losses := 0, retry := .ready }).losses
    if n < 8 then t.modBus fun b => b.retryHead (backoff n)
    else
      let u := t.modBus fun b => b.dropHead.count fun c => { c with dropped := satInc16 c.dropped }
      let v := match a.kind with
        | .hold => u.holdsFailed a .powerUnavailable
        | _ => u
      v.raiseFault .arbitrationLimit (some a.address)

/-- R184: taking an EVENT; a controller that is not PRESENT is also polled. The event names port first + k of the
entry that holds the address now, also where a map that came meanwhile gives it fewer ports (DESIGN CHOICE, log
entry 24). The POLL is queued after what the event does to its port, the grant scan included (DESIGN CHOICE, log
entry 36). -/
def State.takeEvent (s : State) (address localPort : Nat) (x : PowerState) : State :=
  match s.entryAt address with
  | none => s
  | some m =>
    let t := if h : m.first + localPort < 48 then s.applyPower ⟨m.first + localPort, h⟩ x else s
    if m.presence = .present then t else t.modBus fun b => b.requestPoll address

/-- R185: taking an ALL_POWER_DOWN: an OFF event for every port of every entry, in map order. -/
def State.takeAllPowerDown (s : State) : State :=
  (s.bus.map.flatMap fun m => m.portsOf (BitVec.ofNat 12 (2 ^ m.count - 1))).foldl (fun t p => t.applyPower p .off) s

/-- R183: the oldest entry leaves the buffer, which may end a stretch, and is acted on. -/
def State.takeInbound (s : State) : State :=
  match s.bus.inbound with
  | [] => s
  | x :: rest =>
    let t := s.modBus fun b => ({ b with inbound := rest }).endStretch
    match x with
    | .event a lp st => t.takeEvent a lp st
    | .allPowerDown => t.takeAllPowerDown

/-- R181: the part itself holds the clock line low. -/
def Bus.holdsClock (b : Bus) : Bool :=
  match b.slave with
  | .stretching _ _ => true
  | _ => false

/-- R180: a stuck bus is declared. -/
def State.declareStuck (s : State) (addressAcked : Bool) : State :=
  let t := s.modBus fun b =>
    let c := match b.attempt with
      | some a => if a.orphan then { b with attempt := none }
                  else (if addressAcked then b.acked a.address else b).retryHead .ready
      | none => b
    ({ c with phase := .stuck, slave := .aside }).count fun c => { c with stuck := satInc16 c.stuck }
  t.raiseFault .stuckBus none

/-- R180: the end of the episode; every map entry is polled, in map order. -/
def Bus.unstick (b : Bus) : Bus :=
  let c := ({ b with phase := .idle }).modHead fun x => { x with retry := x.retry.afterEnd }
  c.map.foldl (fun d m => d.requestPoll m.address) c

/-! ### The map (R168, R169) -/

/-- The checks of R168 on one entry. -/
def RawMapEntry.inRange (own : Nat) (m : RawMapEntry) : Bool :=
  decide (8 ≤ m.address.toNat ∧ m.address.toNat ≤ 119 ∧ m.address.toNat ≠ own ∧ m.first.toNat ≤ 47
    ∧ 1 ≤ m.count.toNat ∧ m.count.toNat ≤ 12 ∧ m.first.toNat + m.count.toNat - 1 ≤ 47)

/-- Two entries share an address or a port. -/
def RawMapEntry.clash (x y : RawMapEntry) : Bool :=
  x.address == y.address ||
    (decide (x.first.toNat < y.first.toNat + y.count.toNat) && decide (y.first.toNat < x.first.toNat + x.count.toNat))

def noClash : List RawMapEntry → Bool
  | [] => true
  | x :: rest => rest.all (fun y => !RawMapEntry.clash x y) && noClash rest

/-- R168: the request is accepted. -/
def mapAcceptable (own : Nat) (l : List RawMapEntry) : Bool :=
  decide (l.length ≤ 6) && l.all (RawMapEntry.inRange own) && noClash l

/-- A new entry (R169 step 4). -/
def RawMapEntry.toEntry (m : RawMapEntry) : MapEntry :=
  { address := m.address.toNat, first := m.first.toNat, count := m.count.toNat, presence := .unseen, nacks := 0,
    rePoll := some 1000 }

/-- R169: an accepted map replaces the old one. -/
def State.replaceMap (s : State) (l : List RawMapEntry) : State :=
  let map := l.map RawMapEntry.toEntry
  let t := s.modBus fun b =>
    let c : Bus := { b with map := map, queue := [], inbound := [] }
    ({ c with attempt := b.attempt.map fun a => { a with orphan := true } } : Bus).endStretch
  let u := t.setPowers fun p => some (if map.any (·.feeds p) then .unknown else .none)
  u.modBus fun b => map.foldl (fun b m => b.requestPoll m.address) b

/-! ### Meanings -/

def execBusStartDetected (s : State) : Outcome State Fault Refusal := .next (s.modBus .startSeen)

/-- R167: a STOP. A STOP of the part's own transfer is part of that transfer's outcome (R174 to R177). -/
def execBusStopDetected (s : State) : Outcome State Fault Refusal :=
  if s.bus.phase = .busy then .next (s.modBus .transferEnds) else .next s

/-- R167: both lines high for 1 ms in BUSY without a STOP. -/
def execBusIdleTimeout (s : State) : Outcome State Fault Refusal :=
  if s.bus.phase = .busy then .next (s.modBus .transferEnds) else .next s

/-- R173: the attempt of the head entry, or the withdrawal before its START. -/
def execAttemptStart (withdrawn : Bool) (s : State) : Outcome State Fault Refusal :=
  match s.bus.phase, s.bus.queue with
  | .idle, x :: _ =>
    match x.retry with
    | .afterStop _ => .next s
    | .ready => .next (s.modBus fun b => if withdrawn then b.withdraw else b.startAttempt)
    | .running n => .next ((s.runOutUs n).modBus fun b => if withdrawn then b.withdraw else b.startAttempt)
    | .backingOff n => .next ((s.runOutUs n).modBus fun b => if withdrawn then b.withdraw else b.startAttempt)
  | _, _ => .next s

/-- R174. A POLL with another number of state bytes than the controller's ports is no success, and changes nothing
(log entries 5, 25). -/
def execTransactionSuccess (bytes : List Byte) (s : State) : Outcome State Fault Refusal :=
  match s.bus.phase, s.bus.attempt with
  | .master, some a => .next (if a.readWhole bytes then s.transactionSucceeds a bytes else s)
  | _, _ => .next s

/-- R175, R176. -/
def execAddressNack (second : Bool) (s : State) : Outcome State Fault Refusal :=
  match s.bus.phase, s.bus.attempt with
  | .master, some a => .next (s.addressNacked a second)
  | _, _ => .next s

/-- R177. -/
def execDataNack (s : State) : Outcome State Fault Refusal :=
  match s.bus.phase, s.bus.attempt with
  | .master, some a => .next (s.dataNacked a)
  | _, _ => .next s

/-- R178, R179. -/
def execArbitrationLoss (addressAcked : Bool) (addressByte : Option Byte) (s : State) : Outcome State Fault Refusal :=
  match s.bus.phase, s.bus.attempt with
  | .master, some a => .next (s.arbitrationLost a addressAcked addressByte)
  | _, _ => .next s

/-- R180: no further declaration while STUCK, and none while the part itself holds the clock low: its own stretch does
not count (log entry 5 for the command met there). -/
def execStuckBus (addressAcked : Bool) (s : State) : Outcome State Fault Refusal :=
  if s.bus.phase = .stuck ∨ s.bus.holdsClock = true then .next s else .next (s.declareStuck addressAcked)

/-- R180. -/
def execStuckBusEnd (s : State) : Outcome State Fault Refusal :=
  if s.bus.phase = .stuck then .next (s.modBus .unstick) else .next s

/-- R176: the re-poll of a controller that is not PRESENT. -/
def execRePollTimerExpiry (k : Fin 6) (s : State) : Outcome State Fault Refusal :=
  match s.bus.map[k.val]? with
  | none => .next s
  | some m =>
    match m.rePoll with
    | none => .next s
    | some n =>
      if m.presence = .present then .next s
      else .next ((s.runOutMs n).modBus fun b =>
        (b.requestPoll m.address).modEntry m.address fun m => { m with rePoll := some 1000 })

/-- R181: an address byte received as a bystander. -/
def execSlaveAddressByte (byte : Byte) (s : State) : Outcome State Fault Refusal :=
  if s.bus.phase = .busy ∧ s.bus.slave = .listening then .next (s.modBus fun b => b.addressByte (Straps.ownAddress s.straps) byte)
  else .next s

/-- R181: 10 ms of stretching end without a free place. -/
def execStretchTimeout (s : State) : Outcome State Fault Refusal :=
  match s.bus.slave with
  | .stretching _ n =>
    .next ((s.runOutMs n).modBus fun b =>
      ({ b with slave := .aside, acks := b.acks ++ [false] }).count fun c => { c with refusedFull := satInc16 c.refusedFull })
  | _ => .next s

/-- R182: data bytes of a write to the part's own address, one after another. -/
def execEventWrite (bytes : List Byte) (s : State) : Outcome State Fault Refusal :=
  match s.bus.slave with
  | .event _ => .next (s.modBus fun b => bytes.foldl Bus.eventByte b)
  | _ => .next s

/-- R185: data bytes after the general call address. -/
def execGeneralCallReceived (bytes : List Byte) (s : State) : Outcome State Fault Refusal :=
  match s.bus.slave with
  | .general => .next (s.modBus fun b => bytes.foldl Bus.generalByte b)
  | _ => .next s

/-- R183. -/
def execInboundEntryTaken (s : State) : Outcome State Fault Refusal := .next s.takeInbound

end Sys2Proof.Machine
end

