-- ==== Sys2Proof/Machine/Replies.lean ====
section
/-! DEFINITION. The payloads that the part sends: the data of every reply (R203) and every notice (R204), under the
encoding of R201. A reply's data are what follows its status byte. -/

namespace Sys2Proof.Machine

/-- The code of an optional item, all ones when absent. -/
def optCode {α : Type} (code : α → Nat) (x : Option α) : Byte := optByte (x.map code)

/-- The two bytes of a kind and the pair of a PAIR kind. -/
def Kind.bytes (k : Kind) : List Byte := [byteOf k.code, optCode Pair.code k.pair?]

/-! ### Ports, policies, profiles -/

/-- One rate of the ladder: bits 0 to 2 the fail count, bit 7 barred (R203). -/
def ladderByte (fails : Nat) (barred : Bool) : Byte := byteOf (fails % 8 + if barred then 128 else 0)

/-- PORT_QUERY (R31), offsets 1 to 67. -/
def State.portQueryData (s : State) (p : PortId) : List Byte :=
  let c := s.port p
  [byteOf p.val, byteOf c.admin.code, byteOf c.state.code, byteOf c.cause.code, boolByte c.energy,
    (c.partner.map RateSet.toByte).getD 0xFF, optCode Rate.code c.candidate, optCode Rate.code c.current]
  ++ Rate.list.map (fun r => ladderByte (c.fails.get r) (c.barred.get r))
  ++ [byteOf c.negFails, boolByte c.exhausted, byteOf c.samples] ++ signed16 c.sum
  ++ [optCode Rate.code (c.lastMargins.map (·.rate))]
  ++ Pair.list.flatMap (fun x => optSigned16 (c.lastMargins.map (·.margins.get x)))
  ++ [byteOf c.lowStreak] ++ be16 c.glitchCount ++ [byteOf c.flapCount]
  ++ opt32 c.attempt ++ opt32 c.glitch ++ opt32 c.window ++ opt32 c.holddown ++ opt32 c.recheck
  ++ opt16 c.insertionLoss ++ opt16 (c.length.map (·.cm)) ++ [optCode LengthSource.code (c.length.map (·.source))]
  ++ [byteOf c.power.code, boolByte c.holdOwned, optCode Admin.code (c.returnInfo.map (·.admin))]
  ++ opt32 (c.returnInfo.map (·.holddown))
  ++ [optCode PortState.code (c.returnInfo.map (·.state)), optCode Cause.code (c.returnInfo.map (·.cause)),
      byteOf c.active.profile.val, boolByte c.pendingPolicy.isSome]

/-- The dispositions of PORT_POLICY (R65, R66). -/
inductive PolicyDisposition where
  | latched | pending | read | removed | nothingPending
deriving DecidableEq, Repr

def PolicyDisposition.code : PolicyDisposition → Nat
  | .latched => 0
  | .pending => 1
  | .read => 2
  | .removed => 3
  | .nothingPending => 4

/-- PORT_POLICY, offsets 1 to 41. -/
def State.policyData (s : State) (p : PortId) (d : PolicyDisposition) : List Byte :=
  let c := s.port p
  [byteOf p.val, byteOf d.code] ++ c.active.toBytes ++ [boolByte c.pendingPolicy.isSome]
    ++ (c.pendingPolicy.map Policy.toBytes).getD (List.replicate 19 0)

/-- PROFILE_WRITE and PROFILE_READ. -/
def State.profileData (s : State) (i : Fin 8) : List Byte := byteOf i.val :: s.profiles[i].toBytes

/-! ### The scheduler -/

def Disposition.code : Disposition → Nat
  | .queued => 0
  | .merged => 1
  | .passive => 2

/-- The ACCEPTED reply of DIAG_REQUEST (R86, R203). R193 says that it carries the stored averaging too. R203 fixes its
ten bytes and its length, and has no place for it: DEDUCED, the layout is followed (log entry 34). -/
def acceptedData (d : Disposition) (x : Slot) : List Byte :=
  be32 x.seq ++ [byteOf d.code] ++ x.kind.bytes ++ [byteOf x.urgency.code, byteOf x.tags.length]

/-- What became of one slot at a DIAG_CANCEL (R102). -/
inductive CancelResult where
  | absent | cancelled | notCancelled
deriving DecidableEq, Repr

def CancelResult.code : CancelResult → Nat
  | .absent => 0
  | .cancelled => 1
  | .notCancelled => 2

/-- An engine block of 16 bytes. -/
def Engine.block (c : Engine) : List Byte :=
  [byteOf c.warmth.code, byteOf c.duty.code, optCode Fin.val (c.slot.map (·.port))] ++ opt32 (c.slot.map (·.seq))
  ++ [optCode Fin.val (c.snapshot.map (·.index)), optByte (c.snapshot.map (·.launchOffset))] ++ opt16 c.a0
  ++ [(c.a0.map fun _ => boolByte c.lowLaunch).getD 0xFF] ++ opt32 c.idle

/-- The slots in a phase that passes a test. -/
def State.countSlots (s : State) (f : Option Slot → Bool) : Nat := (s.slots.toList.filter f).length

/-- ENGINE_QUERY ENGINES (R103). -/
def State.enginesData (s : State) : List Byte :=
  [boolByte s.reference.present] ++ s.engines.toList.flatMap Engine.block
  ++ [byteOf (s.countSlots (·.isNone)), byteOf (s.countSlots fun x => x.map (·.phase) == some .queued),
      byteOf (s.countSlots fun x => (x.map (·.phase.isAssigned)).getD false),
      byteOf (s.countSlots fun x => x.map (·.phase) == some .complete)] ++ be32 s.admissions

/-- A slot put into a list by age. -/
def insertAge (x : Slot) : List Slot → List Slot
  | [] => [x]
  | y :: rest => if y.age < x.age then y :: insertAge x rest else x :: y :: rest

/-- The COMPLETE slots by age. -/
def State.completeSlots (s : State) : List Slot :=
  (s.slots.toList.filterMap fun x => x.filter fun y => y.phase == .complete).foldl (fun l x => insertAge x l) []

/-- The occupied slots in the order of R103. -/
def State.tableList (s : State) : List Slot :=
  s.grantOrder.filterMap s.slot ++ (List.finRange 4).filterMap (fun e => (s.slotOfEngine e).bind s.slot)
    ++ s.completeSlots

/-- A table entry of 18 bytes. -/
def Slot.entry (x : Slot) : List Byte :=
  let engine := match x.phase with
    | .assigned e => some e.val
    | _ => none
  [byteOf x.port.val, byteOf x.phase.code, optByte engine] ++ x.kind.bytes
  ++ [byteOf x.urgency.code, byteOf x.origin.code, boolByte x.force, byteOf x.averaging.toNat, byteOf x.tags.length]
  ++ be32 x.seq ++ opt32 x.holdTimer

/-- ENGINE_QUERY TABLE (R103). -/
def State.tableData (s : State) (start : Nat) : List Byte :=
  let l := s.tableList
  let part := (l.drop start).take 12
  [byteOf l.length, byteOf start, byteOf part.length] ++ part.flatMap Slot.entry

/-! ### Records and traces -/

/-- A finding entry of 7 bytes. -/
def Finding.bytes (x : Finding) : List Byte :=
  [byteOf x.kind.code] ++ be16 x.distance ++ signed16 x.rho ++ [boolByte x.saturated, optCode Pair.code x.partner]

/-- A pair block of 28 bytes; unused finding entries are 0. -/
def PairResult.block (r : PairResult) : List Byte :=
  [optCode PairStatus.code r.status, byteOf ((if r.truncated then 1 else 0) + (if r.saturated then 2 else 0))]
  ++ opt16 r.coupling ++ optSigned16 r.margin ++ [byteOf (r.findings.take 3).length]
  ++ (r.findings.take 3).flatMap Finding.bytes ++ List.replicate (7 * (3 - (r.findings.take 3).length)) 0

/-- CABLE_QUERY with status OK (R155), offsets 1 to 130. -/
def State.cableData (s : State) (p : PortId) (r : Record) : List Byte :=
  [byteOf p.val] ++ be32 r.seq ++ be32 r.stamp ++ r.kind.bytes ++ [byteOf r.profile.val, byteOf r.averaging.toNat,
    byteOf ((if r.lowLaunch then 1 else 0) + (if r.traceDropped then 2 else 0)
      + (if s.tracesAvailable p r then 4 else 0)), byteOf r.verdict.code]
  ++ opt16 (r.length.map (·.cm)) ++ [optCode LengthSource.code (r.length.map (·.source))]
  ++ Pair.list.flatMap fun x => (r.pairs.get x).block

/-- The pair of a page (R161). -/
def pairOfPage (page : Nat) : Pair := (Pair.ofCode (page / 20)).getD .D

/-- Bit n for pair n. -/
def presenceByte (t : PerPair (Option Trace)) : Byte :=
  byteOf ((if t.a.isSome then 1 else 0) + (if t.b.isSome then 2 else 0) + (if t.c.isSome then 4 else 0)
    + (if t.d.isSome then 8 else 0))

/-- TRACE_PAGE, offsets 1 to 15: the slot as found, with the hold that the reply shows (R161). -/
def tracePageHead (p : PortId) (page : Nat) (found : TraceSet) (hold : Timer) : List Byte :=
  [byteOf p.val, byteOf page, byteOf (pairOfPage page).code] ++ be16 (page % 20 * 64) ++ be32 found.seq
  ++ found.kind.bytes ++ [presenceByte found.traces, byteOf ((if found.stale then 1 else 0)
      + (if hold.isSome then 2 else 0))] ++ opt16 hold

/-- TRACE_PAGE, offsets 16 to 143. -/
def pageSamples (page : Nat) (w : Trace) : List Byte := ((w.toList.drop (page % 20 * 64)).take 64).flatMap signed16

/-! ### The power bus -/

/-- POWER_MAP: the map as stored. -/
def State.mapData (s : State) : List Byte :=
  byteOf s.bus.map.length :: s.bus.map.flatMap fun m =>
    [byteOf m.address, byteOf m.first, byteOf m.count, byteOf m.presence.code]

def BusCounters.toList (c : BusCounters) : List Nat :=
  [c.arbitrationLosses, c.addressNacks, c.dataNacks, c.dropped, c.stuck, c.accepted, c.bytesRefused, c.refusedFull]

/-- POWER_QUERY (R170). -/
def State.powerData (s : State) : List Byte :=
  [byteOf (Straps.ownAddress s.straps), byteOf (BusRate.code s.straps.busRate), byteOf s.bus.phase.code, byteOf s.bus.map.length]
  ++ s.bus.map.flatMap (fun m =>
      [byteOf m.address, byteOf m.first, byteOf m.count, byteOf m.presence.code, byteOf m.nacks] ++ opt32 m.rePoll)
  ++ s.ports.toList.map (fun c => byteOf (c.power.code + if c.holdOwned then 128 else 0))
  ++ [byteOf s.bus.queue.length]
  ++ s.bus.queue.flatMap (fun x =>
      [byteOf x.address, byteOf x.kind.code] ++ be16 x.mask.toNat
        ++ [byteOf x.losses, boolByte (s.bus.inAttempt x.address x.kind)])
  ++ [byteOf s.bus.inbound.length] ++ s.bus.counters.toList.flatMap be16

/-! ### The link -/

def LinkCounters.toList (c : LinkCounters) : List Nat :=
  [c.framing, c.gapTimeouts, c.crc, c.oversize, c.overruns, c.huntDiscards, c.accepted, c.repliesSent, c.noticesSent]

/-- The class of a notice, as a place in the list STARTED, PORT_CHANGE, DIAG_DONE, POWER_FAULT, REF_CHANGE. -/
def Notice.classIndex : Notice → Nat
  | .started _ => 0
  | .portChange _ => 1
  | .diagDone _ _ => 2
  | .powerFault _ => 3
  | .refChange _ => 4

/-- LINK_QUERY (R200). -/
def State.linkData (s : State) : List Byte :=
  [byteOf (LineRate.code s.straps.lineRate)] ++ be32 s.seconds ++ s.link.counters.toList.flatMap be16
  ++ [byteOf s.link.buffer.length, boolByte (s.link.transmitter == .reply), s.link.mask.toByte,
      byteOf s.link.notices.length]
  ++ (List.range 5).map fun i => byteOf (s.link.notices.filter fun n => n.classIndex == i).length

/-! ### Notices (R204) -/

/-- The TYPE of a notice (R202). -/
def Notice.type (n : Notice) : Byte := byteOf (0x60 + n.classIndex)

def Started.bytes (n : Started) : List Byte :=
  [byteOf n.cause.code, 0x2E, 0x48, 0x04, byteOf (LineRate.code n.straps.lineRate), byteOf (Straps.ownAddress n.straps),
    byteOf (BusRate.code n.straps.busRate)] ++ be32 n.seconds

def PortChange.bytes (n : PortChange) : List Byte :=
  [byteOf n.port.val, byteOf n.state.code, byteOf n.cause.code, byteOf n.admin.code, optCode Rate.code n.current,
    boolByte n.exhausted] ++ be32 n.seconds ++ [byteOf n.count]

/-- DIAG_DONE: 31 bytes, unused tags 0. -/
def DiagDone.bytes (n : DiagDone) : List Byte :=
  [byteOf n.port.val, byteOf n.outcome.code] ++ be32 n.seq ++ n.kind.bytes
  ++ [byteOf n.urgency.code, byteOf n.averaging.toNat, byteOf n.origin.code, optCode Fin.val n.engine,
      boolByte ((n.receipt.map (·.traceDropped)).getD false)]
  ++ be32 ((n.receipt.map (·.seq)).getD 0) ++ [optCode Verdict.code (n.receipt.map (·.verdict))] ++ be32 n.seconds
  ++ [byteOf n.tags.length] ++ (n.tags.take 4).flatMap be16 ++ List.replicate (8 - 2 * (n.tags.take 4).length) 0

def PowerFault.bytes (n : PowerFault) : List Byte :=
  [byteOf n.kind.code, optByte n.address, byteOf n.count] ++ be32 n.seconds

def RefChange.bytes (n : RefChange) : List Byte := [boolByte n.present] ++ be16 n.losses ++ be32 n.seconds

def Notice.payload : Notice → List Byte
  | .started n => n.bytes
  | .portChange n => n.bytes
  | .diagDone _ n => n.bytes
  | .powerFault n => n.bytes
  | .refChange n => n.bytes

/-- The frame of a notice: TAG 0 (R204). -/
def Notice.frame (n : Notice) : Frame := { type := n.type, tag := 0, payload := n.payload }

/-- The frame that is on the line, where one is being sent. -/
def Link.onLine (k : Link) : Option Frame :=
  match k.transmitter with
  | .idle => none
  | .reply => k.sending.map (·.frame)
  | .notice n => some n.frame

end Sys2Proof.Machine
end

