-- ==== Sys2Proof/Machine/Requests.lean ====
section
/-! DEFINITION. The Request Handler (R192): the type and length tests, the owners of the seventeen requests, and the
reply. An owner answers the new state with a status and the data that follow it. -/

namespace Sys2Proof.Machine

/-- What an owner answers: the status, the data after it, and the mark of a PART_RESET (R199). -/
structure Answer where
  status : Status
  data : List Byte
  resets : Bool
deriving DecidableEq, Repr

/-- Status OK with data. -/
def Answer.ok (data : List Byte) : Answer := { status := .ok, data := data, resets := false }

/-- A refusal: the status alone (R193). -/
def Answer.refusal (st : Status) : Answer := { status := st, data := [], resets := false }

/-- Acts on the port a byte names, or refuses it with BAD_FIELD. -/
def State.withPort (s : State) (b : Byte) (f : PortId → State × Answer) : State × Answer :=
  match portOfByte b with
  | some p => f p
  | none => (s, .refusal .badField)

/-! ### Qualification Controller -/

/-- The reply of PORT_ADMIN: port, admin and state as they stand. -/
def State.adminAnswer (s : State) (p : PortId) : Answer :=
  .ok [byteOf p.val, byteOf (s.port p).admin.code, byteOf (s.port p).state.code]

/-- PORT_ADMIN (R3, R4, R5). -/
def State.servePortAdmin (s : State) (port setting : Byte) : State × Answer :=
  s.withPort port fun p =>
    match setting.toNat with
    | 0 => (s.adminDown p, (s.adminDown p).adminAnswer p)
    | 1 => (s.adminUp p, (s.adminUp p).adminAnswer p)
    | _ => (s, .refusal .badField)

/-- PORT_RETRAIN (R22). -/
def State.servePortRetrain (s : State) (port : Byte) : State × Answer :=
  s.withPort port fun p =>
    (s.retrain p, .ok [byteOf p.val, boolByte (s.port p).retrains, byteOf ((s.retrain p).port p).state.code])

/-- LADDER_CLEAR (R30). -/
def State.serveLadderClear (s : State) (port : Byte) : State × Answer :=
  s.withPort port fun p => (s.ladderClear p, .ok [byteOf p.val, byteOf ((s.ladderClear p).port p).state.code])

/-- PORT_QUERY (R31). -/
def State.servePortQuery (s : State) (port : Byte) : State × Answer :=
  s.withPort port fun p => (s, .ok (s.portQueryData p))

/-! ### Policy Store -/

/-- R65: the states in which a written policy latches at once. -/
def PortState.latchesAtOnce : PortState → Bool
  | .off => true
  | .listen => true
  | .faulted => true
  | _ => false

/-- R65: a checked policy is stored as pending and latched where the state allows. -/
def State.writePolicy (s : State) (p : PortId) (pol : Policy) : State :=
  let t := s.modPort p fun c => { c with pendingPolicy := some pol }
  if (s.port p).state.latchesAtOnce then t.modPort p .latch else t

/-- PORT_POLICY WRITE (R64, R65). -/
def State.servePolicyWrite (s : State) (p : PortId) (record : RawPolicy) : State × Answer :=
  match Policy.ofRaw record with
  | none => (s, .refusal .badField)
  | some pol =>
    let t := s.writePolicy p pol
    (t, .ok (t.policyData p (if (s.port p).state.latchesAtOnce then .latched else .pending)))

/-- PORT_POLICY READ (R66). -/
def State.servePolicyRead (s : State) (p : PortId) : State × Answer := (s, .ok (s.policyData p .read))

/-- PORT_POLICY DISCARD (R66). -/
def State.servePolicyDiscard (s : State) (p : PortId) : State × Answer :=
  let t := s.modPort p fun c => { c with pendingPolicy := none }
  (t, .ok (t.policyData p (if (s.port p).pendingPolicy.isSome then .removed else .nothingPending)))

/-- PORT_POLICY: actions 0 WRITE, 1 READ, 2 DISCARD. The record of the last two is not examined (R201). -/
def State.servePortPolicy (s : State) (port action : Byte) (record : RawPolicy) : State × Answer :=
  s.withPort port fun p =>
    match action.toNat with
    | 0 => s.servePolicyWrite p record
    | 1 => s.servePolicyRead p
    | 2 => s.servePolicyDiscard p
    | _ => (s, .refusal .badField)

/-- PROFILE_WRITE (R72). -/
def State.serveProfileWrite (s : State) (index : Byte) (entry : RawProfile) : State × Answer :=
  match profileOfByte index, Profile.ofRaw entry with
  | some i, some e =>
    let t := { s with profiles := s.profiles.set i e }
    (t, .ok (t.profileData i))
  | _, _ => (s, .refusal .badField)

/-- PROFILE_READ (R73). -/
def State.serveProfileRead (s : State) (index : Byte) : State × Answer :=
  match profileOfByte index with
  | some i => (s, .ok (s.profileData i))
  | none => (s, .refusal .badField)

/-! ### Measurement Scheduler -/

/-- The kind of a DIAG_REQUEST; the pair is examined for PAIR only (R81). -/
def kindOfBytes (kind pair : Byte) : Option Kind :=
  match kind.toNat with
  | 0 => some .full
  | 1 => (Pair.ofCode pair.toNat).map .pair
  | 2 => some .quick
  | 3 => some .passive
  | _ => none

/-- The class of a DIAG_REQUEST; AUTO is refused from the host (R81). -/
def urgencyOfByte (b : Byte) : Option Urgency :=
  match b.toNat with
  | 0 => some .urgent
  | 2 => some .routine
  | _ => none

/-- R81: the checked request, or `none` where it is refused with BAD_FIELD. -/
def askOf (port kind pair cls averaging force : Byte) (tag : Half) : Option Ask :=
  match portOfByte port, kindOfBytes kind pair, urgencyOfByte cls, boolOfCode force.toNat with
  | some p, some k, some u, some f =>
    if tag = 0 then none
    else some { port := p, kind := k, urgency := u, averaging := Averaging.round averaging.toNat, force := f,
                origin := .host, tag := some tag.toNat }
  | _, _, _, _ => none

/-- R86. -/
def admissionAnswer : Admission → Answer
  | .admitted d x => { status := .accepted, data := acceptedData d x, resets := false }
  | .tableFull => .refusal .queueFull
  | .tagLimit => .refusal .tagLimit

/-- DIAG_REQUEST (R81 to R86). -/
def State.serveDiagRequest (s : State) (port kind pair cls averaging force : Byte) (tag : Half) : State × Answer :=
  match askOf port kind pair cls averaging force tag with
  | none => (s, .refusal .badField)
  | some a => ((s.admitAsk a).1, admissionAnswer (s.admitAsk a).2)

/-- R102: the QUEUED slot of the port. -/
def State.cancelQueued (s : State) (p : PortId) : State × CancelResult :=
  match s.queuedSlot p with
  | none => (s, .absent)
  | some i => (s.complete i .cancelled none false, .cancelled)

/-- R102: the ASSIGNED slot that the port had when the request was taken. -/
def State.cancelAssigned (s : State) (i : Option SlotId) : State × CancelResult :=
  match i.bind fun i => (s.slot i).map fun x => (i, x) with
  | none => (s, .absent)
  | some (i, x) =>
    match s.stageOf x with
    | .analysing _ => (s, .notCancelled)
    | _ => (s.complete i .cancelled none false, .cancelled)

/-- The status of a DIAG_CANCEL from its two results (R102). -/
def cancelStatus (q a : CancelResult) : Status :=
  if q = .cancelled ∨ a = .cancelled then .ok else if q = .absent ∧ a = .absent then .notFound else .notCancelled

/-- DIAG_CANCEL: the QUEUED slot first, then the ASSIGNED one (R102; log entry 16). -/
def State.serveDiagCancel (s : State) (port : Byte) : State × Answer :=
  s.withPort port fun p =>
    let q := s.cancelQueued p
    let a := q.1.cancelAssigned (s.assignedSlot p)
    let st := cancelStatus q.2 a.2
    (a.1, if st = .notFound then .refusal .notFound
      else { status := st, data := [byteOf p.val, byteOf q.2.code, byteOf a.2.code], resets := false })

/-- ENGINE_QUERY (R103): selector 0 ENGINES, 1 TABLE. The start position of ENGINES is not examined (R201). -/
def State.serveEngineQuery (s : State) (selector start : Byte) : State × Answer :=
  match selector.toNat with
  | 0 => (s, .ok s.enginesData)
  | 1 => (s, if start.toNat < 32 then .ok (s.tableData start.toNat) else .refusal .badField)
  | _ => (s, .refusal .badField)

/-! ### Record Store -/

/-- CABLE_QUERY (R155). -/
def State.serveCableQuery (s : State) (port : Byte) : State × Answer :=
  s.withPort port fun p =>
    match s.record p with
    | none => (s, .refusal .notStored)
    | some r => (s, .ok (s.cableData p r))

/-- R162, R163: what a page request does to the hold of the slot it found. -/
def RecordStore.afterPage (st : RecordStore) (j : TraceId) (page : Nat) (held : Bool) : RecordStore :=
  if page = 0 then st.placeHold j else if page = 79 ∧ held = true then st.endHold j else st

/-- TRACE_PAGE (R161 to R163). An OK reply shows the held flag and the hold timer as they stand after the request has been
handled; a NOT_STORED reply reads the slot as it stood when the request was taken. DEDUCED (log entry 32): so does the hold
timer there, which R161 does not name for it. -/
def State.serveTracePage (s : State) (port page : Byte) : State × Answer :=
  s.withPort port fun p =>
    if 79 < page.toNat then (s, .refusal .badField)
    else
      match s.store.readable p with
      | none => (s, .refusal .notStored)
      | some j =>
        match s.traceSlot j with
        | none => (s, .refusal .notStored)
        | some t =>
          let u := { s with store := s.store.afterPage j page.toNat t.held }
          match t.traces.get (pairOfPage page.toNat) with
          | some w =>
            (u, .ok (tracePageHead p page.toNat t ((u.traceSlot j).bind (·.hold)) ++ pageSamples page.toNat w))
          | none => (u, { status := .notStored, data := tracePageHead p page.toNat t t.hold, resets := false })

/-! ### Power Coordination Port -/

/-- POWER_MAP (R168, R169). -/
def State.servePowerMap (s : State) (l : List RawMapEntry) : State × Answer :=
  if mapAcceptable (Straps.ownAddress s.straps) l then (s.replaceMap l, .ok (s.replaceMap l).mapData)
  else (s, .refusal .badField)

/-- POWER_QUERY (R170). -/
def State.servePowerQuery (s : State) : State × Answer := (s, .ok s.powerData)

/-! ### Host Serial Link -/

/-- NOTICE_MASK (R196). -/
def State.serveNoticeMask (s : State) (flags : Byte) : State × Answer :=
  match NoticeMask.ofByte flags with
  | none => (s, .refusal .badField)
  | some m => (s.modLink fun k => { k with mask := m }, .ok [s.link.mask.toByte, m.toByte])

/-- LINK_QUERY (R200). -/
def State.serveLinkQuery (s : State) (clear : Byte) : State × Answer :=
  match boolOfCode clear.toNat with
  | none => (s, .refusal .badField)
  | some b => (if b then s.modLink fun k => { k with counters := LinkCounters.zero } else s, .ok s.linkData)

/-- PART_RESET (R199): the reset comes with the end of its reply. -/
def State.servePartReset (s : State) : State × Answer := (s, { status := .ok, data := [], resets := true })

/-! ### Type and length (R202) -/

/-- The entries of a POWER_MAP payload after its count byte. -/
def mapEntriesOf : List Byte → List RawMapEntry
  | a :: f :: c :: rest => { address := a, first := f, count := c } :: mapEntriesOf rest
  | _ => []

/-- The seventeen requests, each with the payload its type allows. -/
inductive Request where
  | portAdmin (port setting : Byte)
  | portRetrain (port : Byte)
  | ladderClear (port : Byte)
  | portQuery (port : Byte)
  | portPolicy (port action : Byte) (record : RawPolicy)
  | profileWrite (index : Byte) (entry : RawProfile)
  | profileRead (index : Byte)
  | diagRequest (port kind pair cls averaging force : Byte) (tag : Half)
  | diagCancel (port : Byte)
  | engineQuery (selector start : Byte)
  | cableQuery (port : Byte)
  | tracePage (port page : Byte)
  | powerMap (entries : List RawMapEntry)
  | powerQuery
  | noticeMask (flags : Byte)
  | linkQuery (clear : Byte)
  | partReset
deriving DecidableEq, Repr

/-- The request whose TYPE and LEN pass steps 1 and 2 of R192, or the status of the refusal. -/
def requestOf (type : Byte) (payload : List Byte) : Except Status Request :=
  let orLength (r : Option Request) : Except Status Request := match r with
    | some r => .ok r
    | none => .error .badLength
  match type.toNat with
  | 0x01 => orLength (match payload with | [p, x] => some (.portAdmin p x) | _ => none)
  | 0x02 => orLength (match payload with | [p] => some (.portRetrain p) | _ => none)
  | 0x03 => orLength (match payload with | [p] => some (.ladderClear p) | _ => none)
  | 0x04 => orLength (match payload with | [p] => some (.portQuery p) | _ => none)
  | 0x05 => orLength (match payload with
      | p :: x :: record => (RawPolicy.ofBytes record).map (Request.portPolicy p x)
      | _ => none)
  | 0x06 => orLength (match payload with
      | i :: entry => (RawProfile.ofBytes entry).map (Request.profileWrite i)
      | _ => none)
  | 0x07 => orLength (match payload with | [i] => some (.profileRead i) | _ => none)
  | 0x08 => orLength (match payload with
      | [p, k, x, c, n, f, hi, lo] => some (.diagRequest p k x c n f (halfOf hi lo))
      | _ => none)
  | 0x09 => orLength (match payload with | [p] => some (.diagCancel p) | _ => none)
  | 0x0A => orLength (match payload with | [x, st] => some (.engineQuery x st) | _ => none)
  | 0x0B => orLength (match payload with | [p] => some (.cableQuery p) | _ => none)
  | 0x0C => orLength (match payload with | [p, g] => some (.tracePage p g) | _ => none)
  | 0x0D => orLength (match payload with
      | n :: rest => if rest.length = 3 * n.toNat then some (.powerMap (mapEntriesOf rest)) else none
      | [] => none)
  | 0x0E => orLength (match payload with | [] => some .powerQuery | _ => none)
  | 0x0F => orLength (match payload with | [m] => some (.noticeMask m) | _ => none)
  | 0x10 => orLength (match payload with | [c] => some (.linkQuery c) | _ => none)
  | 0x11 => orLength (match payload with | [] => some .partReset | _ => none)
  | _ => .error .unknownType

/-- Step 3 of R192: the request is passed to its owner. -/
def State.serve (s : State) : Request → State × Answer
  | .portAdmin p x => s.servePortAdmin p x
  | .portRetrain p => s.servePortRetrain p
  | .ladderClear p => s.serveLadderClear p
  | .portQuery p => s.servePortQuery p
  | .portPolicy p x r => s.servePortPolicy p x r
  | .profileWrite i e => s.serveProfileWrite i e
  | .profileRead i => s.serveProfileRead i
  | .diagRequest p k x c n f t => s.serveDiagRequest p k x c n f t
  | .diagCancel p => s.serveDiagCancel p
  | .engineQuery x st => s.serveEngineQuery x st
  | .cableQuery p => s.serveCableQuery p
  | .tracePage p g => s.serveTracePage p g
  | .powerMap l => s.servePowerMap l
  | .powerQuery => s.servePowerQuery
  | .noticeMask m => s.serveNoticeMask m
  | .linkQuery c => s.serveLinkQuery c
  | .partReset => s.servePartReset

/-- The reply to a frame: the request's TYPE with bit 7 set, its TAG, the status and the data (R193, R202). -/
def replyTo (f : Frame) (a : Answer) : Reply :=
  { frame := { type := f.type ||| 0x80, tag := f.tag, payload := byteOf a.status.code :: a.data }, resets := a.resets }

/-- R192: the frame just taken from the buffer is handled whole and its reply placed. -/
def State.handle (s : State) (f : Frame) : State :=
  match requestOf f.type f.payload with
  | .error st => s.placeReply (replyTo f (.refusal st))
  | .ok r => (s.serve r).1.placeReply (replyTo f (s.serve r).2)

/-- R199: after placing the reply of a PART_RESET the handler takes no further frame. -/
def Link.stopped (k : Link) : Bool := (k.waiting.map (·.resets)).getD false || (k.sending.map (·.resets)).getD false

/-- R192: the handler takes the oldest frame where the waiting position is empty. -/
def State.handlerTake (s : State) : State :=
  match s.link.buffer with
  | [] => s
  | f :: rest =>
    if s.link.waiting = none ∧ s.link.stopped = false then (s.modLink fun k => { k with buffer := rest }).handle f else s

/-- R191: a good frame is offered to the receive buffer. -/
def State.acceptFrame (s : State) (f : Frame) : State :=
  s.modLink fun k =>
    if k.buffer.length < 2 then
      { k with buffer := k.buffer ++ [f], counters := { k.counters with accepted := satInc16 k.counters.accepted } }
    else { k with counters := { k.counters with overruns := satInc16 k.counters.overruns } }

/-- A request command: its frame completes, and where no other frame waits the handler takes it at once if it may
(R191, R192). While the line is NOT_READY the frame's bytes are lost (R188). Log entry 21. -/
def State.offerRequest (s : State) (f : Frame) : State :=
  if s.link.ready = true then
    if s.link.buffer = [] then (s.acceptFrame f).handlerTake else s.acceptFrame f
  else s

end Sys2Proof.Machine
end

