-- ==== Sys2Proof/Machine/HostLink.lean ====
section
/-! DEFINITION. The meanings of the commands of the Host Serial Link (chapter 10): reset and readiness, the receiver, the
Request Handler, the transmitter, and one meaning for each request row of the table. -/

namespace Sys2Proof.Machine

open Host (Outcome)

/-! ### Reset and readiness -/

/-- R197: a power-on reset with these levels on the strap pins. -/
def execPowerOnReset (pins : Straps) (s : State) : Outcome State Fault Refusal :=
  .next (({ s with pins := pins }).resetPart .powerOn)

/-- R198: the line becomes READY and the transmitter starts the head notice. -/
def execLineReady (s : State) : Outcome State Fault Refusal :=
  match s.link.readyTimer with
  | none => .next s
  | some n => .next (((s.runOutMs n).modLink fun k => { k with ready := true, readyTimer := none }).startIfIdle)

/-! ### The receiver (R188 to R191) -/

def State.countLink (s : State) (f : LinkCounters → LinkCounters) : State :=
  s.modLink fun k => { k with counters := f k.counters }

/-- The receiver returns to HUNT and the gap timer stops. -/
def State.hunt (s : State) : State := s.modLink fun k => { k with receiver := .hunt, gap := none }

/-- The frame that the bytes after SYNC hold, LEN first. -/
def frameOf : List Byte → Option Frame
  | len :: type :: tag :: rest => some { type := type, tag := tag, payload := rest.take len.toNat }
  | _ => none

/-- R190: a complete frame is checked; `bytes` are the LEN + 5 bytes after SYNC. -/
def State.checkFrame (s : State) (bytes : List Byte) : State :=
  let body := bytes.take (bytes.length - 2)
  if bytes.drop (bytes.length - 2) = be16 (crc16 body).toNat then
    match frameOf body with
    | some f => s.acceptFrame f
    | none => s
  else s.countLink fun c => { c with crc := satInc16 c.crc }

/-- R189: a byte taken in IN_FRAME after the bytes `got`. -/
def State.frameByte (s : State) (got : List Byte) (b : Byte) : State :=
  let bytes := got ++ [b]
  let len := (bytes.headD 0).toNat
  if 250 < len then s.hunt.countLink fun c => { c with oversize := satInc16 c.oversize }
  else if bytes.length = len + 5 then s.hunt.checkFrame bytes
  else s.modLink fun k => { k with receiver := .inFrame bytes, gap := some 2 }

/-- R188, R189. DEDUCED (log entry 33): a byte with a framing error raises framing errors alone, also in HUNT. -/
def execHostByteReceived (b : Byte) (stopBit : Bool) (s : State) : Outcome State Fault Refusal :=
  if s.link.ready = false then .next s
  else if stopBit = false then .next (s.hunt.countLink fun c => { c with framing := satInc16 c.framing })
  else
    match s.link.receiver with
    | .hunt =>
      if b = 0xC3 then .next (s.modLink fun k => { k with receiver := .inFrame [], gap := some 2 })
      else .next (s.countLink fun c => { c with huntDiscards := satInc16 c.huntDiscards })
    | .inFrame got => .next (s.frameByte got b)

/-- R189: the gap timer expires. -/
def execGapTimerExpiry (s : State) : Outcome State Fault Refusal :=
  match s.link.gap with
  | none => .next s
  | some n =>
    match s.link.receiver with
    | .hunt => .next s
    | .inFrame _ => .next ((s.runOutMs n).hunt.countLink fun c => { c with gapTimeouts := satInc16 c.gapTimeouts })

/-- R192. -/
def execRequestHandlerTake (s : State) : Outcome State Fault Refusal := .next s.handlerTake

/-! ### The transmitter -/

/-- R194: the last byte of a reply has been sent; that of PART_RESET resets the part, which samples the strap pins
again (R199). -/
def State.replySent (s : State) : State :=
  let t := (s.modLink fun k => { k with sending := none }).countLink
    fun c => { c with repliesSent := satInc16 c.repliesSent }
  if (s.link.sending.map (·.resets)).getD false then t.resetPart .partReset else t.arbitrate

/-- R194: the last byte of a notice has been sent; that of a DIAG_DONE releases its slot (R101). -/
def State.noticeSent (s : State) (n : Notice) : State :=
  let t := s.countLink fun c => { c with noticesSent := satInc16 c.noticesSent }
  match n with
  | .diagDone i _ => (t.releaseSlot i).arbitrate
  | _ => t.arbitrate

/-- R194. -/
def execFrameTransmitEnd (s : State) : Outcome State Fault Refusal :=
  match s.link.transmitter with
  | .idle => .next s
  | .reply => .next s.replySent
  | .notice n => .next (s.noticeSent n)

/-! ### The request rows

Each is the completion of the request's frame (log entry 21), whose payload is laid out as R202 and R203 give it. -/

/-- A request frame. -/
def frame (type tag : Byte) (payload : List Byte) : Frame := { type := type, tag := tag, payload := payload }

/-- R3. -/
def execPortAdminUp (tag port : Byte) (s : State) : Outcome State Fault Refusal :=
  .next (s.offerRequest (frame 0x01 tag [port, 1]))

/-- R4, R5. -/
def execPortAdminDown (tag port : Byte) (s : State) : Outcome State Fault Refusal :=
  .next (s.offerRequest (frame 0x01 tag [port, 0]))

/-- R22. -/
def execPortRetrain (tag port : Byte) (s : State) : Outcome State Fault Refusal :=
  .next (s.offerRequest (frame 0x02 tag [port]))

/-- R30. -/
def execLadderClear (tag port : Byte) (s : State) : Outcome State Fault Refusal :=
  .next (s.offerRequest (frame 0x03 tag [port]))

/-- R31. -/
def execPortQuery (tag port : Byte) (s : State) : Outcome State Fault Refusal :=
  .next (s.offerRequest (frame 0x04 tag [port]))

/-- R64, R65. -/
def execPortPolicyWrite (tag port : Byte) (record : RawPolicy) (s : State) : Outcome State Fault Refusal :=
  .next (s.offerRequest (frame 0x05 tag (port :: 0 :: RawPolicy.toBytes record)))

/-- R66: the record bytes, which are not examined, are zeros. -/
def execPortPolicyRead (tag port : Byte) (s : State) : Outcome State Fault Refusal :=
  .next (s.offerRequest (frame 0x05 tag (port :: 1 :: List.replicate 19 0)))

/-- R66. -/
def execPortPolicyDiscard (tag port : Byte) (s : State) : Outcome State Fault Refusal :=
  .next (s.offerRequest (frame 0x05 tag (port :: 2 :: List.replicate 19 0)))

/-- R72. -/
def execProfileWrite (tag index : Byte) (entry : RawProfile) (s : State) : Outcome State Fault Refusal :=
  .next (s.offerRequest (frame 0x06 tag (index :: RawProfile.toBytes entry)))

/-- R73. -/
def execProfileRead (tag index : Byte) (s : State) : Outcome State Fault Refusal :=
  .next (s.offerRequest (frame 0x07 tag [index]))

/-- R81 to R86. -/
def execDiagRequest (tag port kind pair cls averaging force : Byte) (diagTag : Half) (s : State) :
    Outcome State Fault Refusal :=
  .next (s.offerRequest (frame 0x08 tag ([port, kind, pair, cls, averaging, force] ++ be16 diagTag.toNat)))

/-- R102. -/
def execDiagCancel (tag port : Byte) (s : State) : Outcome State Fault Refusal :=
  .next (s.offerRequest (frame 0x09 tag [port]))

/-- R103. -/
def execEngineQueryEngines (tag : Byte) (s : State) : Outcome State Fault Refusal :=
  .next (s.offerRequest (frame 0x0A tag [0, 0]))

/-- R103. -/
def execEngineQueryTable (tag start : Byte) (s : State) : Outcome State Fault Refusal :=
  .next (s.offerRequest (frame 0x0A tag [1, start]))

/-- R155. -/
def execCableQuery (tag port : Byte) (s : State) : Outcome State Fault Refusal :=
  .next (s.offerRequest (frame 0x0B tag [port]))

/-- R161 to R163. -/
def execTracePage (tag port page : Byte) (s : State) : Outcome State Fault Refusal :=
  .next (s.offerRequest (frame 0x0C tag [port, page]))

/-- R168, R169. -/
def execPowerMap (tag : Byte) (entries : List RawMapEntry) (s : State) : Outcome State Fault Refusal :=
  .next (s.offerRequest (frame 0x0D tag
    (byteOf entries.length :: entries.flatMap fun m => [m.address, m.first, m.count])))

/-- R170. -/
def execPowerQuery (tag : Byte) (s : State) : Outcome State Fault Refusal := .next (s.offerRequest (frame 0x0E tag []))

/-- R196. -/
def execNoticeMask (tag flags : Byte) (s : State) : Outcome State Fault Refusal :=
  .next (s.offerRequest (frame 0x0F tag [flags]))

/-- R200. -/
def execLinkQuery (tag clear : Byte) (s : State) : Outcome State Fault Refusal :=
  .next (s.offerRequest (frame 0x10 tag [clear]))

/-- R199. The strap pins have the levels that the command names from here on; they are sampled at the reset that the
last byte of the reply brings (log entry 4). -/
def execPartReset (ask : ResetAsk) (s : State) : Outcome State Fault Refusal :=
  .next (({ s with pins := ask.pins }).offerRequest (frame 0x11 ask.tag []))

end Sys2Proof.Machine
end

