-- ==== Sys2Proof/Machine/Lanes.lean ====
section
/-! DEFINITION. The meanings of the lane commands of the table (chapter 2): arrivals, the ALIVE watch, and the taking of
each kind of report from the head of a lane's FIFO (R39). Where the head report is of another kind, or the FIFO is
empty, the named report cannot be taken and nothing happens (log entry 5). -/

namespace Sys2Proof.Machine

open Host (Outcome)

def execLaneReportArrival (l : LaneId) (word : List Byte) (s : State) : Outcome State Fault Refusal :=
  .next (s.laneArrival l word)

def execAlive (l : LaneId) (status : Byte) (s : State) : Outcome State Fault Refusal := .next (s.takeAlive l status)

/-- R44, R45: 300 ms without ALIVE. A watch that has been stopped has no expiry. -/
def execAliveWatchExpiry (l : LaneId) (s : State) : Outcome State Fault Refusal :=
  match (s.lane l).watch with
  | some n => .next ((s.runOutMs n).laneDown l)
  | none => .next s

def execEnergy (l : LaneId) (s : State) : Outcome State Fault Refusal :=
  match (s.lane l).fifo with
  | .energy k e :: _ => .next ((s.popReport l).actEnergy (portAt l k) e)
  | _ => .next s

def execPartner (l : LaneId) (s : State) : Outcome State Fault Refusal :=
  match (s.lane l).fifo with
  | .partner k rates :: _ => .next ((s.popReport l).actPartner (portAt l k) rates)
  | _ => .next s

def execLock (l : LaneId) (s : State) : Outcome State Fault Refusal :=
  match (s.lane l).fifo with
  | .lock k r :: _ => .next ((s.popReport l).actLock (portAt l k) r)
  | _ => .next s

def execLoss (l : LaneId) (s : State) : Outcome State Fault Refusal :=
  match (s.lane l).fifo with
  | .loss k :: _ => .next ((s.popReport l).actLoss (portAt l k))
  | _ => .next s

def execRestore (l : LaneId) (s : State) : Outcome State Fault Refusal :=
  match (s.lane l).fifo with
  | .restore k :: _ => .next ((s.popReport l).actRestore (portAt l k))
  | _ => .next s

def execMargin (l : LaneId) (s : State) : Outcome State Fault Refusal :=
  match (s.lane l).fifo with
  | .margin k m :: _ => .next ((s.popReport l).actMargin (portAt l k) m)
  | _ => .next s

def execLossEst (l : LaneId) (s : State) : Outcome State Fault Refusal :=
  match (s.lane l).fifo with
  | .lossEst k il :: _ => .next ((s.popReport l).actLossEst (portAt l k) il)
  | _ => .next s

end Sys2Proof.Machine
end

