-- ==== Sys2Proof/Machine/PortTimers.lean ====
section
/-! DEFINITION. The meanings of the port timers' expiries (R2, R52, R57, R60, R61). The time that the timer still has to
run passes first (log entry 3); a stopped timer has no expiry. -/

namespace Sys2Proof.Machine

open Host (Outcome)

/-- R2, R13, R15, R18. -/
def execAttemptTimerExpiry (p : PortId) (s : State) : Outcome State Fault Refusal :=
  match (s.port p).attempt with
  | none => .next s
  | some n =>
    let t := s.runOutMs n
    match (s.port p).state with
    | .negotiate => .next (t.negotiationTimeout p)
    | .train => .next (t.failAt p (t.port p).candidate .timeout)
    | .verify => .next (t.failAt p (t.port p).current .timeout)
    | _ => .next s

/-- R52, R54. -/
def execGlitchTimerExpiry (p : PortId) (s : State) : Outcome State Fault Refusal :=
  match (s.port p).glitch with
  | none => .next s
  | some n => if (s.port p).state = .up then .next ((s.runOutMs n).countFlap p) else .next s

/-- R57. -/
def execWindowTimerExpiry (p : PortId) (s : State) : Outcome State Fault Refusal :=
  match (s.port p).window with
  | none => .next s
  | some n => .next ((s.runOutMs n).modPort p .windowExpires)

/-- R60, R24, R26. -/
def execHolddownTimerExpiry (p : PortId) (s : State) : Outcome State Fault Refusal :=
  match (s.port p).holddown with
  | none => .next s
  | some n =>
    let t := s.runOutMs n
    match (s.port p).state with
    | .holddown => .next (t.enterListen p none true)
    | .diagnose => .next (t.modPort p fun c => { c with holddown := none })
    | _ => .next s

/-- R61, R29. -/
def execRecheckTimerExpiry (p : PortId) (s : State) : Outcome State Fault Refusal :=
  match (s.port p).recheck with
  | none => .next s
  | some n => if (s.port p).state = .faulted then .next ((s.runOutMs n).recheckExpires p) else .next s

end Sys2Proof.Machine
end

