-- ==== Sys2Proof/Machine/Engines.lean ====
section
/-! DEFINITION. The engines' own steps (chapter 6): warm-up and self-baseline, settle, pulser switch, launches, the end
of a stage and of a capture, analysis, recovery, idle power-down; and the expiry of a slot's hold timer (R93). -/

namespace Sys2Proof.Machine

open Host (Outcome)

/-! ### Capture -/

/-- R113, R114: a stage begins with its pulser switch. -/
def Engine.startStage (x : Pair) (c : Engine) : Engine :=
  { c with pulsePair := some x, accumulator := PerPair.all Trace.zero, clip := PerPair.all false, launched := 0,
           step := some 20, repetition := none }

/-- R115: the repetition timer starts with the first launch. -/
def Engine.firstLaunch (c : Engine) : Engine := { c with step := none, launched := 1, repetition := some 2000 }

/-- The samples of one channel of a window; channel and pair share a letter (R104). -/
def channelOf (w : Window) : Pair → Vector Sample 1280
  | .A => w[0]
  | .B => w[1]
  | .C => w[2]
  | .D => w[3]

/-- R116: the window of a launch is added into the accumulator. -/
def addChannel (t : Trace) (ch : Vector Sample 1280) : Trace := zipVec (fun z x => z + x.toInt) t ch

/-- R116: a raw sample of −512 or +511. -/
def channelClips (ch : Vector Sample 1280) : Bool := ch.toList.any fun x => x.toInt == -512 || x.toInt == 511

def Engine.accumulate (w : Window) (c : Engine) : Engine :=
  { c with accumulator := PerPair.ofFn fun p => addChannel (c.accumulator.get p) (channelOf w p)
           clip := PerPair.ofFn fun p => c.clip.get p || channelClips (channelOf w p) }

/-- R116: floor(sum / n). -/
def averaged (n : Nat) (t : Trace) : Trace := mapVec (fun z => z.fdiv n) t

/-- R116: the averaged traces and the clip flags go to the stage store. A baseline keeps no clip flags (R106). -/
def Engine.endStage (n : Nat) (c : Engine) : Engine :=
  match c.pulsePair with
  | none => c
  | some x =>
    { c with stages := c.stages ++ [{ pair := x, traces := c.accumulator.map (averaged n)
                                      clip := if c.warmth = .warming then PerPair.all false else c.clip }]
             accumulator := PerPair.all Trace.zero, clip := PerPair.all false, launched := 0, repetition := none }

/-- R117: the job that a finished capture hands to the analyser; it copies baselines, A0 and the low-launch flag. -/
def Engine.jobFor (c : Engine) (kind : Kind) : Option Job :=
  match c.a0, c.snapshot, c.baselines with
  | some a0, some snap, some b =>
    some { kind := kind, a0 := a0, lowLaunch := c.lowLaunch, snapshot := snap
           stages := c.stages.map fun g =>
             { pair := g.pair, capture := g.traces, baseline := b.get g.pair, clip := g.clip } }
  | _, _, _ => none

/-- R117: the engine ANALYSING, 100 µs for each stage captured. -/
def Engine.endCapture (c : Engine) : Engine :=
  { c with duty := .analysing, pulsePair := none, step := some (100 * c.stages.length) }

/-- R112, R117: the end of the last stage of a slot's capture. -/
def State.captureEnd (s : State) (e : EngineId) (x : Slot) : State :=
  ((s.setRoute x.port .transceiver).setJob e ((s.engine e).jobFor x.kind)).modEngine e .endCapture

/-- R113: after a stage has ended, the next stage begins or the capture ends. -/
def State.nextStage (s : State) (e : EngineId) : State :=
  let c := s.engine e
  if c.warmth = .warming then
    match Pair.list.drop c.stages.length with
    | x :: _ => s.modEngine e (.startStage x)
    | [] => s.modEngine e fun c => { c with pulsePair := none }
  else
    match (s.slotOfEngine e).bind s.slot with
    | none => s
    | some sl =>
      match sl.kind.stages.drop c.stages.length with
      | x :: _ => s.modEngine e (.startStage x)
      | [] => s.captureEnd e sl

/-- The pulses of the stage in progress: 64 for a self-baseline (R106), else as R113 gives. -/
def State.pulsesOf (s : State) (e : EngineId) : Nat :=
  let c := s.engine e
  if c.warmth = .warming then 64
  else
    match (s.slotOfEngine e).bind s.slot with
    | none => 1
    | some sl => sl.kind.pulses (c.averaging.getD sl.averaging)

/-- R115: at a compare match the window of the last launch is closed and summed; then the next launch, or the end of
the stage. -/
def State.compareMatch (s : State) (e : EngineId) (w : Window) : State :=
  let t := s.modEngine e (.accumulate w)
  let n := s.pulsesOf e
  if (s.engine e).launched < n then
    t.modEngine e fun c => { c with launched := c.launched + 1, repetition := some 2000 }
  else (t.modEngine e (.endStage n)).nextStage e

/-! ### Warm-up (R106, R107) -/

/-- A trace of free samples (log entry 11). -/
def freeTrace (n pair channel : Nat) : Trace :=
  ⟨⟨(List.range 1280).map fun i => (Config.freeSample n pair channel i).toInt⟩, by simp⟩

/-- The four baseline sets from the stage store; a stage that was not reported is a free value (log entry 11). -/
def baselinesOf (n : Nat) (stages : List Stage) : PerPair (PerPair Trace) :=
  PerPair.ofFn fun x =>
    match stages.find? (·.pair == x) with
    | some g => g.traces
    | none => PerPair.ofFn fun ch => freeTrace n x.code ch.code

/-- The largest magnitude among samples 0 to 63 (R107). -/
def peakOf (t : Trace) : Nat := ((t.toList.take 64).map Int.natAbs).foldl max 0

/-- The mean of the four peaks, floored (R107). -/
def launchMean (b : PerPair (PerPair Trace)) : Nat :=
  (peakOf b.a.a + peakOf b.b.b + peakOf b.c.c + peakOf b.d.d) / 4

/-- R107: the warm-up ends with these baselines. DESIGN CHOICE (log entry 40): the self-baseline stages, the accumulator,
the clip flags and the current pulse pair are emptied here, where R104, R106 and R107 name no moment. -/
def Engine.warmed (b : PerPair (PerPair Trace)) (c : Engine) : Engine :=
  let mean := launchMean b
  { c with warmth := .warm, warmup := none, baselines := some b, a0 := some (clampNat 200 511 mean)
           lowLaunch := decide (mean < 200), stages := [], pulsePair := none, step := none, repetition := none
           accumulator := PerPair.all Trace.zero, clip := PerPair.all false, launched := 0
           idle := if c.duty = .free then some 2000 else c.idle }

/-- R107: then routing is tested for an ASSIGNED engine, and a scan runs. -/
def State.warmupEnd (s : State) (e : EngineId) : State :=
  let t := s.modEngine e (.warmed (baselinesOf s.freeCount (s.engine e).stages))
  let u := if (s.engine e).stages.length < 4 then { t with freeCount := t.freeCount + 1 } else t
  let v := match u.slotOfEngine e with
    | some i => u.routeTest i
    | none => u
  v.grantScan

/-- R120. -/
def Engine.recovered (c : Engine) : Engine :=
  { c with duty := .free, step := none, idle := if c.warmth = .warm then some 2000 else c.idle }

/-! ### Meanings -/

/-- R93: the hold wait of a slot ends without the hold. -/
def execSlotHoldTimerExpiry (i : SlotId) (s : State) : Outcome State Fault Refusal :=
  match s.slot i with
  | none => .next s
  | some x =>
    match x.holdTimer with
    | none => .next s
    | some n =>
      if x.phase.isAssigned = true ∧ (s.port x.port).power = .holdPending then
        .next ((s.runOutMs n).complete i .powerHoldTimeout none false)
      else .next s

/-- R107. -/
def execWarmupTimerExpiry (e : EngineId) (s : State) : Outcome State Fault Refusal :=
  match (s.engine e).warmup with
  | none => .next s
  | some n => if (s.engine e).warmth = .warming then .next ((s.runOutMs n).warmupEnd e) else .next s

/-- R109. -/
def execIdleTimerExpiry (e : EngineId) (s : State) : Outcome State Fault Refusal :=
  match (s.engine e).idle with
  | none => .next s
  | some n => if (s.engine e).duty = .free then .next ((s.runOutMs n).modEngine e .cooled) else .next s

/-- R106: 592 µs before the warm-up timer expires. -/
def execSelfBaselineCaptureStart (e : EngineId) (s : State) : Outcome State Fault Refusal :=
  match (s.engine e).warmup with
  | none => .next s
  | some n =>
    if (s.engine e).warmth = .warming ∧ (s.engine e).pulsePair = none ∧ (s.engine e).stages = [] then
      .next ((s.runOutUs (s.untilTick n - 592)).modEngine e (.startStage .A))
    else .next s

/-- R111, R113. -/
def execSettleEnd (e : EngineId) (s : State) : Outcome State Fault Refusal :=
  match (s.engine e).step with
  | none => .next s
  | some n =>
    if (s.engine e).duty = .routing then
      .next (((s.runOutUs n).modEngine e fun c => { c with duty := .capturing, step := none }).nextStage e)
    else .next s

/-- R114, R115. -/
def execPulserSwitchEnd (e : EngineId) (s : State) : Outcome State Fault Refusal :=
  match (s.engine e).step with
  | none => .next s
  | some n =>
    if (s.engine e).pulsePair ≠ none ∧ (s.engine e).launched = 0 then .next ((s.runOutUs n).modEngine e .firstLaunch)
    else .next s

/-- R115, R116, R117. -/
def execRepetitionCompareMatch (e : EngineId) (w : Window) (s : State) : Outcome State Fault Refusal :=
  match (s.engine e).repetition with
  | none => .next s
  | some n => .next ((s.runOutUs ((n + 999) / 1000)).compareMatch e w)

/-- R118. -/
def execAnalysisEnd (e : EngineId) (s : State) : Outcome State Fault Refusal :=
  match (s.engine e).step, s.slotOfEngine e with
  | some n, some i =>
    if (s.engine e).duty = .analysing then
      let n' := ((s.slot i).map (·.averaging)).getD .n1
      .next ((s.runOutUs n).complete i .complete ((s.job e).map fun j => analyse j n') false)
    else .next s
  | _, _ => .next s

/-- R120. -/
def execRecoveryEnd (e : EngineId) (s : State) : Outcome State Fault Refusal :=
  match (s.engine e).step with
  | none => .next s
  | some n =>
    if (s.engine e).duty = .recovering then .next (((s.runOutUs n).modEngine e .recovered).grantScan) else .next s

end Sys2Proof.Machine
end

