-- ==== Sys2Proof/Machine/ReferenceMonitor.lean ====
section
/-! DEFINITION. The Reference Monitor (section 6.7) and the expiry of a trace hold (R163). -/

namespace Sys2Proof.Machine

open Host (Outcome)

/-- R119, R123: an engine found ROUTING or CAPTURING at a loss is aborted and its slot completes ABORTED_REF. -/
def State.abortForReference (s : State) (e : EngineId) : State :=
  if (s.engine e).duty = .routing ∨ (s.engine e).duty = .capturing then
    match s.slotOfEngine e with
    | some i => s.complete i .abortedRef none true
    | none => s.modEngine e (·.aborted true)
  else s

/-- R98, R119, R123: the loss is declared. Every engine is COLD before the first slot completes. DESIGN CHOICE (log
entry 31): where several engines are aborted, they go by engine number, each completion with its scan before the next
abort. DEDUCED (log entry 39): REF_CHANGE is raised after all of them, as the last of the effects that R123 and its worked
sequence name. -/
def State.loseReference (s : State) : State :=
  let t := { s with reference := { s.reference with present := false, qualify := none, losses := satInc16 s.reference.losses }
                    engines := mapVec Engine.cooled s.engines }
  ((List.finRange 4).foldl State.abortForReference t).raiseRefChange

/-- R105, R124: what the return does to an engine: one that is COLD and ASSIGNED starts its warm-up. -/
def Engine.atReturn (c : Engine) : Engine := if c.warmth = .cold ∧ c.duty = .assigned then c.startWarmup else c

/-- R124: the return is declared. -/
def State.regainReference (s : State) : State :=
  let t := { s with reference := { s.reference with present := true, qualify := none }
                    engines := mapVec Engine.atReturn s.engines }
  t.raiseRefChange.grantScan

/-- R123: 100 µs without an edge while PRESENT. -/
def execReferenceLoss (s : State) : Outcome State Fault Refusal :=
  if s.reference.present then .next s.loseReference else .next s

/-- R124: an edge while ABSENT starts a stopped qualification timer with 1 ms. -/
def execReferenceEdge (s : State) : Outcome State Fault Refusal :=
  if s.reference.present = false ∧ s.reference.qualify = none then
    .next { s with reference := { s.reference with qualify := some 1 } }
  else .next s

/-- R124: 100 µs without an edge while the qualification timer runs. -/
def execQualificationGap (s : State) : Outcome State Fault Refusal :=
  if s.reference.present = false ∧ s.reference.qualify ≠ none then
    .next { s with reference := { s.reference with qualify := none } }
  else .next s

/-- R124: the qualification timer expires. -/
def execReferenceReturn (s : State) : Outcome State Fault Refusal :=
  match s.reference.qualify with
  | none => .next s
  | some n => if s.reference.present then .next s else .next ((s.runOutMs n).regainReference)

/-- R163. -/
def execTraceHoldTimerExpiry (j : TraceId) (s : State) : Outcome State Fault Refusal :=
  match s.traceSlot j with
  | none => .next s
  | some t =>
    match t.hold with
    | none => .next s
    | some n =>
      let u := s.runOutMs n
      .next { u with store := u.store.endHold j }

end Sys2Proof.Machine
end

