-- ==== Sys2Proof/Machine/Dispatch.lean ====
section
/-! DEFINITION. One arm for each command of the table. -/

namespace Sys2Proof.Machine

def exec (i : Instr) (s : State) : Host.Outcome State Fault Refusal :=
  match i with
  | .powerOnReset pins => Sys2Proof.Machine.execPowerOnReset pins s
  | .lineReady => Sys2Proof.Machine.execLineReady s
  | .hostByteReceived byte stopBit => Sys2Proof.Machine.execHostByteReceived byte stopBit s
  | .gapTimerExpiry => Sys2Proof.Machine.execGapTimerExpiry s
  | .requestHandlerTake => Sys2Proof.Machine.execRequestHandlerTake s
  | .portAdminUp tag port => Sys2Proof.Machine.execPortAdminUp tag port s
  | .portAdminDown tag port => Sys2Proof.Machine.execPortAdminDown tag port s
  | .portRetrain tag port => Sys2Proof.Machine.execPortRetrain tag port s
  | .ladderClear tag port => Sys2Proof.Machine.execLadderClear tag port s
  | .portQuery tag port => Sys2Proof.Machine.execPortQuery tag port s
  | .portPolicyWrite tag port record => Sys2Proof.Machine.execPortPolicyWrite tag port record s
  | .portPolicyRead tag port => Sys2Proof.Machine.execPortPolicyRead tag port s
  | .portPolicyDiscard tag port => Sys2Proof.Machine.execPortPolicyDiscard tag port s
  | .profileWrite tag index entry => Sys2Proof.Machine.execProfileWrite tag index entry s
  | .profileRead tag index => Sys2Proof.Machine.execProfileRead tag index s
  | .diagRequest tag port kind pair cls averaging force diagTag => Sys2Proof.Machine.execDiagRequest tag port kind pair cls averaging force diagTag s
  | .diagCancel tag port => Sys2Proof.Machine.execDiagCancel tag port s
  | .engineQueryEngines tag => Sys2Proof.Machine.execEngineQueryEngines tag s
  | .engineQueryTable tag start => Sys2Proof.Machine.execEngineQueryTable tag start s
  | .cableQuery tag port => Sys2Proof.Machine.execCableQuery tag port s
  | .tracePage tag port page => Sys2Proof.Machine.execTracePage tag port page s
  | .powerMap tag entries => Sys2Proof.Machine.execPowerMap tag entries s
  | .powerQuery tag => Sys2Proof.Machine.execPowerQuery tag s
  | .noticeMask tag flags => Sys2Proof.Machine.execNoticeMask tag flags s
  | .linkQuery tag clear => Sys2Proof.Machine.execLinkQuery tag clear s
  | .partReset ask => Sys2Proof.Machine.execPartReset ask s
  | .frameTransmitEnd => Sys2Proof.Machine.execFrameTransmitEnd s
  | .laneReportArrival lane word => Sys2Proof.Machine.execLaneReportArrival lane word s
  | .alive lane status => Sys2Proof.Machine.execAlive lane status s
  | .aliveWatchExpiry lane => Sys2Proof.Machine.execAliveWatchExpiry lane s
  | .energy lane => Sys2Proof.Machine.execEnergy lane s
  | .partner lane => Sys2Proof.Machine.execPartner lane s
  | .lock lane => Sys2Proof.Machine.execLock lane s
  | .loss lane => Sys2Proof.Machine.execLoss lane s
  | .restore lane => Sys2Proof.Machine.execRestore lane s
  | .margin lane => Sys2Proof.Machine.execMargin lane s
  | .lossEst lane => Sys2Proof.Machine.execLossEst lane s
  | .attemptTimerExpiry port => Sys2Proof.Machine.execAttemptTimerExpiry port s
  | .glitchTimerExpiry port => Sys2Proof.Machine.execGlitchTimerExpiry port s
  | .windowTimerExpiry port => Sys2Proof.Machine.execWindowTimerExpiry port s
  | .holddownTimerExpiry port => Sys2Proof.Machine.execHolddownTimerExpiry port s
  | .recheckTimerExpiry port => Sys2Proof.Machine.execRecheckTimerExpiry port s
  | .slotHoldTimerExpiry slot => Sys2Proof.Machine.execSlotHoldTimerExpiry slot s
  | .warmupTimerExpiry engine => Sys2Proof.Machine.execWarmupTimerExpiry engine s
  | .idleTimerExpiry engine => Sys2Proof.Machine.execIdleTimerExpiry engine s
  | .settleEnd engine => Sys2Proof.Machine.execSettleEnd engine s
  | .pulserSwitchEnd engine => Sys2Proof.Machine.execPulserSwitchEnd engine s
  | .repetitionCompareMatch engine window => Sys2Proof.Machine.execRepetitionCompareMatch engine window s
  | .analysisEnd engine => Sys2Proof.Machine.execAnalysisEnd engine s
  | .recoveryEnd engine => Sys2Proof.Machine.execRecoveryEnd engine s
  | .referenceLoss => Sys2Proof.Machine.execReferenceLoss s
  | .referenceEdge => Sys2Proof.Machine.execReferenceEdge s
  | .qualificationGap => Sys2Proof.Machine.execQualificationGap s
  | .referenceReturn => Sys2Proof.Machine.execReferenceReturn s
  | .traceHoldTimerExpiry slot => Sys2Proof.Machine.execTraceHoldTimerExpiry slot s
  | .busStartDetected => Sys2Proof.Machine.execBusStartDetected s
  | .busStopDetected => Sys2Proof.Machine.execBusStopDetected s
  | .busIdleTimeout => Sys2Proof.Machine.execBusIdleTimeout s
  | .attemptStart withdrawn => Sys2Proof.Machine.execAttemptStart withdrawn s
  | .transactionSuccess stateBytes => Sys2Proof.Machine.execTransactionSuccess stateBytes s
  | .addressNack second => Sys2Proof.Machine.execAddressNack second s
  | .dataNack => Sys2Proof.Machine.execDataNack s
  | .arbitrationLoss addressAcked addressByte => Sys2Proof.Machine.execArbitrationLoss addressAcked addressByte s
  | .stuckBus addressAcked => Sys2Proof.Machine.execStuckBus addressAcked s
  | .stuckBusEnd => Sys2Proof.Machine.execStuckBusEnd s
  | .rePollTimerExpiry entry => Sys2Proof.Machine.execRePollTimerExpiry entry s
  | .slaveAddressByte byte => Sys2Proof.Machine.execSlaveAddressByte byte s
  | .stretchTimeout => Sys2Proof.Machine.execStretchTimeout s
  | .eventWrite bytes => Sys2Proof.Machine.execEventWrite bytes s
  | .generalCallReceived bytes => Sys2Proof.Machine.execGeneralCallReceived bytes s
  | .inboundEntryTaken => Sys2Proof.Machine.execInboundEntryTaken s
  | .selfBaselineCaptureStart engine => Sys2Proof.Machine.execSelfBaselineCaptureStart engine s

end Sys2Proof.Machine
end

