-- ==== Sys2Proof/WellFormed.lean ====
section
/-! DEFINITION. Which commands a partner of the block can send at all: checks on a command's operands alone. -/

namespace Sys2Proof

/-- A POWER_MAP list must fit the payload: 1 + 3 × count is at most 250 (R189, R202). -/
def powerMapFits (entries : List RawMapEntry) : Bool := decide (entries.length ≤ 83)

/-- A lane word has a header byte. One of a wrong length arrives too, and is discarded (R206). -/
def laneWordFits (word : List Byte) : Bool := decide (1 ≤ word.length)

/-- A POLL reads one state byte for each port of a controller, of which it feeds at most 12 (R168, R174). -/
def stateBytesFit (bytes : List Byte) : Bool := decide (bytes.length ≤ 12)

/-- A write to the part carries at least one data byte (R182, R185). -/
def writeFits (bytes : List Byte) : Bool := decide (1 ≤ bytes.length)

/-- The checks on a command, by constructor. A command whose operands are all tight types has none. -/
def Instr.wellFormed : Instr → Bool
  | .powerMap _ entries => powerMapFits entries
  | .laneReportArrival _ word => laneWordFits word
  | .transactionSuccess bytes => stateBytesFit bytes
  | .eventWrite bytes => writeFits bytes
  | .generalCallReceived bytes => writeFits bytes
  | .powerOnReset _ | .lineReady | .hostByteReceived _ _ | .gapTimerExpiry | .requestHandlerTake
  | .portAdminUp _ _ | .portAdminDown _ _ | .portRetrain _ _ | .ladderClear _ _ | .portQuery _ _
  | .portPolicyWrite _ _ _ | .portPolicyRead _ _ | .portPolicyDiscard _ _ | .profileWrite _ _ _
  | .profileRead _ _ | .diagRequest _ _ _ _ _ _ _ _ | .diagCancel _ _ | .engineQueryEngines _
  | .engineQueryTable _ _ | .cableQuery _ _ | .tracePage _ _ _ | .powerQuery _ | .noticeMask _ _
  | .linkQuery _ _ | .partReset _ | .frameTransmitEnd | .alive _ _ | .aliveWatchExpiry _ | .energy _
  | .partner _ | .lock _ | .loss _ | .restore _ | .margin _ | .lossEst _ | .attemptTimerExpiry _
  | .glitchTimerExpiry _ | .windowTimerExpiry _ | .holddownTimerExpiry _ | .recheckTimerExpiry _
  | .slotHoldTimerExpiry _ | .warmupTimerExpiry _ | .idleTimerExpiry _ | .settleEnd _
  | .pulserSwitchEnd _ | .repetitionCompareMatch _ _ | .analysisEnd _ | .recoveryEnd _ | .referenceLoss
  | .referenceEdge | .qualificationGap | .referenceReturn | .traceHoldTimerExpiry _ | .busStartDetected
  | .busStopDetected | .busIdleTimeout | .attemptStart _ | .addressNack _ | .dataNack
  | .arbitrationLoss _ _ | .stuckBus _ | .stuckBusEnd | .rePollTimerExpiry _ | .slaveAddressByte _
  | .stretchTimeout | .inboundEntryTaken | .selfBaselineCaptureStart _ => true

end Sys2Proof
end

