-- ==== Sys2Proof/Safety.lean ====
section
/-! DEFINITION. The terms in which statements about the block are made: what a handled request leaves, how a port moves
from one state to another, and the laws that the rules say hold at all times. -/

namespace Sys2Proof.Machine

/-! ### Terms of results -/

/-- One port's context replaced, everything else as it was. -/
def State.setPort (s : State) (p : PortId) (c : PortCtx) : State := { s with ports := s.ports.set p c }

/-- One lane's record replaced. -/
def State.setLane (s : State) (l : LaneId) (x : Lane) : State := { s with lanes := s.lanes.set l x }

/-- One engine's record replaced. -/
def State.setEngine (s : State) (e : EngineId) (c : Engine) : State := { s with engines := s.engines.set e c }

/-- A port's context replaced by one in another state, with the PORT_CHANGE of that change (R32). -/
def State.changeState (s : State) (p : PortId) (c : PortCtx) : State :=
  (s.setPort p c).queueNotice (.portChange {
    port := p, state := c.state, cause := c.cause, admin := c.admin, current := c.current, exhausted := c.exhausted,
    seconds := s.seconds, count := 1 })

/-- The request handler can take a request the moment its frame completes: the line READY, no frame waiting, the
waiting position empty, no PART_RESET reply under way (R192, R199). -/
def State.handlerFree (s : State) : Prop :=
  s.link.ready = true ∧ s.link.buffer = [] ∧ s.link.waiting = none ∧ s.link.stopped = false

/-- A good frame counted as accepted (R191). -/
def State.accepted (s : State) : State :=
  { s with link := { s.link with counters := { s.link.counters with accepted := satInc16 s.link.counters.accepted } } }

/-- The reply to a request of this TYPE and TAG placed (R193, R202). -/
def State.answer (s : State) (type tag : Byte) (st : Status) (data : List Byte) : State :=
  s.placeReply { frame := { type := type ||| 0x80, tag := tag, payload := byteOf st.code :: data }, resets := false }

/-- The bytes of a host line delivered one after another, each with a good stop bit. -/
def feed : List Byte → State → Host.Outcome State Fault Refusal
  | [], s => .next s
  | b :: rest, s =>
    match exec (.hostByteReceived b true) s with
    | .next t => feed rest t
    | .fault r => .fault r
    | .refused r => .refused r

/-- The bytes `b` stand at offset `k` of a payload. -/
def holdsAt (l : List Byte) (k : Nat) (b : List Byte) : Prop := (l.drop k).take b.length = b

/-- The table of R202: whether a TYPE allows a payload. -/
def lengthAllowed (type : Nat) (payload : List Byte) : Bool :=
  let fixed (n : Nat) : Bool := payload.length == n
  match type with
  | 0x01 => fixed 2
  | 0x02 => fixed 1
  | 0x03 => fixed 1
  | 0x04 => fixed 1
  | 0x05 => fixed 21
  | 0x06 => fixed 17
  | 0x07 => fixed 1
  | 0x08 => fixed 8
  | 0x09 => fixed 1
  | 0x0A => fixed 2
  | 0x0B => fixed 1
  | 0x0C => fixed 2
  | 0x0D => match payload with
    | [] => false
    | n :: _ => fixed (1 + 3 * n.toNat)
  | 0x0E => fixed 0
  | 0x0F => fixed 1
  | 0x10 => fixed 1
  | 0x11 => fixed 0
  | _ => false

/-- What the transmit arbiter of R194 makes of a link whose transmitter has just come free. -/
def Link.afterFrame (k : Link) : Link :=
  match k.waiting, k.notices with
  | some r, _ => { k with waiting := none, sending := some r, transmitter := .reply }
  | none, n :: rest => { k with notices := rest, transmitter := .notice n }
  | none, [] => { k with transmitter := .idle }

/-- A port whose transceiver is being brought up or carries a link: the states of R14 and R23. -/
def PortCtx.inBringUp (c : PortCtx) : Prop :=
  (c.state = .negotiate ∧ c.awaiting = false) ∨ c.state = .train ∨ c.state = .verify ∨ c.state = .up

/-- What entry into LISTEN makes absent or stops, before the latch (R6, R23, R60, R61). -/
def PortCtx.listening (c : PortCtx) (cause : Cause) : PortCtx :=
  { c with
    state := .listen, cause := cause, energy := false, partner := none, candidate := none, current := none,
    attempt := none, glitch := none, holddown := none, recheck := none, awaiting := false, samples := 0, sum := 0 }

/-- What entry into NEGOTIATE clears and loads, after the latch (R8). -/
def PortCtx.negotiating (c : PortCtx) (cause : Cause) : PortCtx :=
  { c with
    state := .negotiate, cause := cause, awaiting := false, partner := none, candidate := none, current := none,
    samples := 0, sum := 0, lowStreak := 0, glitch := none, holddown := none, recheck := none,
    attempt := some 2000 }

/-- A port held at FAULTED with this cause, before the latch (R29). -/
def PortCtx.faultedWith (c : PortCtx) (cause : Cause) : PortCtx :=
  { c with
    state := .faulted, cause := cause, attempt := none, glitch := none, holddown := none, recheck := none,
    current := none, awaiting := false, samples := 0, sum := 0 }

/-- The recheck timer of a FAULTED entry: recheck_s seconds, or stopped where that is 0 (R29). -/
def PortCtx.rechecking (c : PortCtx) : PortCtx :=
  { c with recheck := if c.active.recheckS = 0 then none else some (1000 * c.active.recheckS) }

/-- A fail counted at a rate, with the bar at the limit (R16). -/
def PortCtx.countFail (c : PortCtx) (r : Rate) : PortCtx :=
  { c with fails := c.fails.set r (c.fails.get r + 1)
           barred := if c.fails.get r + 1 = c.active.failsLimit then c.barred.set r true else c.barred }

/-- A port that fails at a rate and goes to NEGOTIATE; RENEGOTIATE is sent (R16, R8). -/
def State.failsAt (s : State) (p : PortId) (r : Rate) (cause : Cause) : State :=
  (s.changeState p ((((s.port p).countFail r).latch).negotiating cause)).sendLane p .renegotiate

/-- A lane whose head report has just been taken, with `rest` behind it (R39, R38). -/
def State.popped (s : State) (l : LaneId) (rest : List Report) : State :=
  s.setLane l { s.lane l with fifo := rest, ready := if rest.length = 15 then true else (s.lane l).ready }

/-- A port sent to FAULTED with this cause: the pending policy latched, HALT sent, the recheck timer started (R29). -/
def State.becomesFaulted (s : State) (p : PortId) (cause : Cause) : State :=
  (s.changeState p (((s.port p).latch).faultedWith cause).rechecking).sendLane p .halt

/-- What becomes of a port in NEGOTIATE that is exhausted, from the state in which exhausted is set and the attempt
timer stopped: FAULTED without a diagnosis, else the exhausted wait, or DIAGNOSE where the scan routed it (R11). A slot
that was completed within its own admission leaves nothing to wait for (log entry 22). -/
def State.exhaustsTo (s : State) (p : PortId) (t : State) : Prop :=
  ((s.port p).active.autoDiagnose = false → t = s.becomesFaulted p .noRate)
    ∧ ((s.port p).active.autoDiagnose = true →
      let w := s.offerAuto p .full
      (w.2 = .tableFull → t = w.1.becomesFaulted p .noRate)
      ∧ (∀ x, w.2 = .admitted .passive x → t = w.1.becomesFaulted p .noRate)
      ∧ ∀ d x, w.2 = .admitted d x → d ≠ .passive →
        ((w.1.port p).state ≠ .negotiate → t = w.1)
        ∧ ((w.1.port p).state = .negotiate → w.1.holdsSlot p = true →
            t = (w.1.setPort p { w.1.port p with awaiting := true }).sendLane p .halt)
        ∧ ((w.1.port p).state = .negotiate → w.1.holdsSlot p = false → t = w.1.becomesFaulted p .noRate))

/-- The bus side replaced, everything else as it was. -/
def State.setBus (s : State) (b : Bus) : State := { s with bus := b }

/-- The map with a controller's consecutive address-NACK count set. -/
def mapNacks (l : List MapEntry) (address n : Nat) : List MapEntry :=
  l.map fun m => if m.address = address then { m with nacks := n } else m

/-- The ports of a controller that a mask names, in port order (R168). -/
def MapEntry.sentPorts (m : MapEntry) (mask : PortMask) : List PortId :=
  (List.finRange 48).filter fun p => decide (m.first ≤ p.val) && mask.getLsbD (p.val - m.first)

/-- The ports of a controller, in port order. -/
def MapEntry.fedPorts (m : MapEntry) : List PortId :=
  (List.finRange 48).filter fun p => decide (m.first ≤ p.val ∧ p.val < m.first + m.count)

/-- What an attempt that is to be retried leaves of the queue: its entry with a retry time, unless its mask became
empty meanwhile (R172). -/
def retried (x : OutEntry) (r : Retry) (rest : List OutEntry) : List OutEntry :=
  if x.kind = .poll ∨ x.mask ≠ 0 then { x with retry := r } :: rest else rest

/-- The attempt in progress is the head entry's and counts: the map it was started under still stands. -/
def Bus.attempts (b : Bus) (a : Attempt) (x : OutEntry) (rest : List OutEntry) : Prop :=
  b.phase = .master ∧ b.attempt = some a ∧ a.orphan = false ∧ b.queue = x :: rest ∧ x.address = a.address
    ∧ x.kind = a.kind

/-- The time on the part's time base, in microseconds. -/
def State.clock (s : State) : Nat := s.micros + 1000 * s.millis + 1000000 * s.seconds

/-! ### Laws -/

/-- The ranges of R63. -/
def Policy.inRange (q : Policy) : Prop :=
  q.allowed ≠ PerRate.all false ∧ 4 ≤ q.k ∧ q.k ≤ 64 ∧ 1 ≤ q.failsLimit ∧ q.failsLimit ≤ 4 ∧ 500 ≤ q.trainTimeout
    ∧ q.trainTimeout ≤ 8000 ∧ 1 ≤ q.glitchMs ∧ q.glitchMs ≤ 50 ∧ 2 ≤ q.flapLimit ∧ q.flapLimit ≤ 20 ∧ 5 ≤ q.windowS
    ∧ q.windowS ≤ 600 ∧ 10 ≤ q.holddownS ∧ q.holddownS ≤ 3600 ∧ (q.recheckS = 0 ∨ 10 ≤ q.recheckS)
    ∧ q.recheckS ≤ 3600 ∧ q.launchOffset ≤ 255

/-- The ranges of R71, and floor below hard. -/
def Profile.inRange (e : Profile) : Prop :=
  500 ≤ e.nvp ∧ e.nvp ≤ 900 ∧ e.atten ≤ 20 ∧ 50 ≤ e.floor ∧ e.floor ≤ 500 ∧ 300 ≤ e.hard ∧ e.hard ≤ 950
    ∧ 100 ≤ e.cross ∧ e.cross ≤ 900 ∧ 500 ≤ e.loss ∧ e.loss ≤ 6000 ∧ (∀ r, e.reach.get r ≤ 200) ∧ e.floor < e.hard

/-- R71: every entry of the Cable Profile Table stays in range, floor below hard. -/
def State.profileLaw (s : State) : Prop := ∀ i : Fin 8, s.profiles[i].inRange

/-- Whether a report is a MARGIN of a local port. -/
def Report.isMarginOf (k : Fin 8) : Report → Bool
  | .margin k' _ => k' == k
  | _ => false

/-- R33, R36 to R38, R45: at most 16 reports, at most one MARGIN for a port, ready given exactly below 16, and a DOWN
lane empty with its watch stopped. -/
def State.laneLaw (s : State) : Prop :=
  ∀ l, (s.lane l).fifo.length ≤ 16 ∧ (∀ k, ((s.lane l).fifo.filter (Report.isMarginOf k)).length ≤ 1)
    ∧ ((s.lane l).ready = true ↔ (s.lane l).fifo.length < 16) ∧ ((s.lane l).up = true ↔ (s.lane l).watch.isSome = true)
    ∧ ((s.lane l).up = false → (s.lane l).fifo = [])

/-- R157 with R156 and R161: at most one non-stale slot and one held slot for a port, every stale slot held, a hold
timer running exactly in a held slot, and every occupied slot once in the order of writing. -/
def RecordStore.law (st : RecordStore) : Prop :=
  (∀ i j : TraceId, ∀ t u, st.traces[i] = some t → st.traces[j] = some u → t.port = u.port →
      (t.stale = false ∧ u.stale = false ∨ t.held = true ∧ u.held = true) → i = j)
    ∧ (∀ (i : TraceId) t, st.traces[i] = some t → (t.stale = true → t.held = true) ∧ (t.held = true ↔ t.hold.isSome = true))
    ∧ st.order.Nodup ∧ ∀ i : TraceId, i ∈ st.order ↔ st.traces[i].isSome = true

/-- R79: for any port at most one slot in QUEUED and at most one in ASSIGNED. -/
def State.tableLaw (s : State) : Prop :=
  ∀ i j x y, s.slot i = some x → s.slot j = some y → x.port = y.port →
    (x.phase = .queued ∧ y.phase = .queued ∨ x.phase.isAssigned = true ∧ y.phase.isAssigned = true) → i = j

/-- R110, R96: an engine is routed to at most one port, and a port is routed only while it is in DIAGNOSE, its engine
WARM and its power state NONE, OFF or HELD. What keeps it so: one slot at most is assigned to an engine, an engine with
a slot is in a duty that serves one, and a route belongs to a slot whose engine is ROUTING or CAPTURING. -/
def State.matrixLaw (s : State) : Prop :=
  (∀ p q e, s.route p = .engine e → s.route q = .engine e → p = q)
    ∧ (∀ p e, s.route p = .engine e → (s.port p).state = .diagnose ∧ (s.engine e).warmth = .warm
        ∧ ((s.engine e).duty = .routing ∨ (s.engine e).duty = .capturing)
        ∧ ((s.port p).power = .none ∨ (s.port p).power = .off ∨ (s.port p).power = .held)
        ∧ ∃ i x, s.slot i = some x ∧ x.phase = .assigned e ∧ x.port = p)
    ∧ (∀ i j x y e, s.slot i = some x → s.slot j = some y → x.phase = .assigned e → y.phase = .assigned e → i = j)
    ∧ (∀ i x e, s.slot i = some x → x.phase = .assigned e →
        (s.engine e).duty = .assigned ∨ (s.engine e).duty = .routing ∨ (s.engine e).duty = .capturing
          ∨ (s.engine e).duty = .analysing)

/-- The duties in which an engine serves a slot (section 6.1). -/
def Duty.serves (d : Duty) : Prop := d = .assigned ∨ d = .routing ∨ d = .capturing ∨ d = .analysing

/-- Section 6.1, R104, R106, R107, R109, R115, R117 for one engine: the duties a COLD and a WARMING engine may hold;
baselines and A0 exactly in WARM, A0 in 200 to 511; the warm-up timer exactly in WARMING, the idle timer exactly in a
WARM FREE engine, the step timer in every ROUTING, ANALYSING and RECOVERING one; slot, snapshot and averaging exactly
while a slot is served; a pulse pair in a capture alone, and the repetition timer with a pulse pair alone. -/
def Engine.law (c : Engine) : Prop :=
  (c.warmth = .cold → c.duty ≠ .routing ∧ c.duty ≠ .capturing)
    ∧ (c.warmth = .warming → c.duty = .assigned ∨ c.duty = .free)
    ∧ (c.warmth = .warm ↔ c.baselines.isSome = true) ∧ (c.warmth = .warm ↔ c.a0.isSome = true)
    ∧ (∀ a, c.a0 = some a → 200 ≤ a ∧ a ≤ 511) ∧ (c.lowLaunch = true → c.warmth = .warm)
    ∧ (c.warmth = .warming ↔ c.warmup.isSome = true)
    ∧ (c.warmth = .warm ∧ c.duty = .free ↔ c.idle.isSome = true)
    ∧ (c.duty = .routing ∨ c.duty = .analysing ∨ c.duty = .recovering → c.step.isSome = true)
    ∧ (c.duty.serves ↔ c.slot.isSome = true) ∧ (c.duty.serves ↔ c.snapshot.isSome = true)
    ∧ (c.duty.serves ↔ c.averaging.isSome = true)
    ∧ (c.pulsePair.isSome = true → c.duty = .capturing ∨ c.warmth = .warming)
    ∧ (c.repetition.isSome = true → c.pulsePair.isSome = true)

/-- The law of the engines, for every engine, and a job of the analyser exactly while the engine is ANALYSING (R117,
R118). -/
def State.engineLaw (s : State) : Prop :=
  ∀ e, (s.engine e).law ∧ ((s.engine e).duty = .analysing ↔ (s.job e).isSome = true)

/-- R168: the law of the Controller Map: at most six entries, each with an address of its own from 8 to 119 that is not
the part's, a port range within 0 to 47 that meets no other, at most two address NACKs counted, and a re-poll timer that
is stopped exactly in PRESENT. -/
def State.mapLaw (s : State) : Prop :=
  s.bus.map.length ≤ 6
    ∧ (∀ m ∈ s.bus.map, 8 ≤ m.address ∧ m.address ≤ 119 ∧ m.address ≠ Straps.ownAddress s.straps ∧ 1 ≤ m.count
        ∧ m.count ≤ 12 ∧ m.first + m.count ≤ 48 ∧ m.nacks ≤ 2 ∧ (m.rePoll = none ↔ m.presence = .present))
    ∧ s.bus.map.Pairwise fun m n => m.address ≠ n.address
        ∧ (m.first + m.count ≤ n.first ∨ n.first + n.count ≤ m.first)

/-- R182, R183: a waiting EVENT carries one of the five states that a controller reports. -/
def State.inboundLaw (s : State) : Prop :=
  ∀ x ∈ s.bus.inbound, ∀ a k st, x = .event a k st →
    st = .off ∨ st = .detecting ∨ st = .powered ∨ st = .held ∨ st = .fault

/-- R91: hold owned is set only while a slot for the port is in ASSIGNED. -/
def State.holdLaw (s : State) : Prop :=
  ∀ p, (s.port p).holdOwned = true → ∃ i x, s.slot i = some x ∧ x.port = p ∧ x.phase.isAssigned = true

/-- The ladder law (R16), the flap law (R55), the ranges of the policies (R63, R64), and the bounds of the verify
accumulator (R17), which is empty in the states where a written policy latches at once (section 4.3). -/
def PortCtx.limitLaw (c : PortCtx) : Prop :=
  c.active.inRange ∧ (∀ q, c.pendingPolicy = some q → q.inRange)
    ∧ (∀ r, c.fails.get r ≤ c.active.failsLimit ∧ (c.barred.get r = true ↔ c.fails.get r = c.active.failsLimit))
    ∧ c.flapCount < c.active.flapLimit ∧ c.negFails ≤ 3 ∧ c.lowStreak ≤ 7 ∧ c.samples ≤ c.active.k
    ∧ (c.state = .verify → c.samples < c.active.k)
    ∧ (c.state = .off ∨ c.state = .listen ∨ c.state = .faulted → c.samples = 0)

/-- R10: a port in TRAIN, VERIFY or UP has a current rate that its policy allows and its ladder does not bar. -/
def PortCtx.rateLaw (c : PortCtx) : Prop :=
  c.state = .train ∨ c.state = .verify ∨ c.state = .up →
    ∃ r, c.current = some r ∧ c.active.allowed.get r = true ∧ r.atOrBelow c.active.ceiling = true
      ∧ c.barred.get r = false ∧ (c.state = .train → c.candidate = some r)

/-- Where the timers of a port run (R2, R49), what admin says of its state (R3 to R5), and that return info is present
exactly in DIAGNOSE (R25, R27). -/
def PortCtx.timerLaw (c : PortCtx) : Prop :=
  (c.attempt.isSome = true → c.state = .negotiate ∧ c.awaiting = false ∨ c.state = .train ∨ c.state = .verify)
    ∧ (c.glitch.isSome = true → c.state = .up) ∧ (c.holddown.isSome = true → c.state = .holddown ∨ c.state = .diagnose)
    ∧ (c.recheck.isSome = true → c.state = .faulted) ∧ (c.window.isSome = true ↔ c.admin = .up)
    ∧ (c.admin = .down → c.state = .off ∨ c.state = .diagnose) ∧ (c.state = .off → c.admin = .down)
    ∧ (c.awaiting = true → c.state = .negotiate) ∧ (c.returnInfo.isSome = true ↔ c.state = .diagnose)

/-- The laws of a port, for every port. -/
def State.portLaw (s : State) : Prop := ∀ p, (s.port p).limitLaw ∧ (s.port p).rateLaw ∧ (s.port p).timerLaw

/-- The slot whose completion a notice reports. -/
def Notice.slot? : Notice → Option SlotId
  | .diagDone i _ => some i
  | _ => none

/-- The slots whose DIAG_DONE is being transmitted or waits in the notice queue. -/
def Link.reporting (k : Link) : List SlotId :=
  (match k.transmitter with
    | .notice n => n.slot?.toList
    | _ => []) ++ k.notices.filterMap Notice.slot?

/-- R195, R101: at most one PORT_CHANGE for a port, one POWER_FAULT, one REF_CHANGE and one STARTED wait, and the slots
in COMPLETE are exactly those whose one DIAG_DONE waits or is being transmitted. -/
def State.noticeLaw (s : State) : Prop :=
  s.link.notices.Pairwise (fun m n => m.sameSubject n = false)
    ∧ (s.link.notices.filter fun n => n.classIndex == 0).length ≤ 1
    ∧ s.link.reporting.Nodup
    ∧ ∀ i, i ∈ s.link.reporting ↔ ∃ x, s.slot i = some x ∧ x.phase = .complete

/-- The bounds and the uniqueness of the queues: the receive buffer (R191), the inbound event buffer (R181, R183) and one
outbound entry for each controller of the map and kind (R171). -/
def State.queueLaw (s : State) : Prop :=
  s.link.buffer.length ≤ 2 ∧ s.bus.inbound.length ≤ 4
    ∧ (s.bus.slave = .general ∨ (∃ got, s.bus.slave = .event got) → s.bus.inbound.length < 4)
    ∧ (s.bus.queue.Pairwise fun x y => ¬(x.address = y.address ∧ x.kind = y.kind))
    ∧ ∀ x ∈ s.bus.queue, ∃ m ∈ s.bus.map, m.address = x.address

end Sys2Proof.Machine
end

