-- ==== Sys2Proof/Certificates/Slice0/Obligations.lean ====
section
/-! DEFINITION. The statements about the block, for the provers. Where a statement gives an exact next state, whatever
the term does not change is unchanged: the equation is the result, the frame and the completion at once. -/

open Sys2Proof Sys2Proof.Machine

/-! ### The queue of commands, time and reset -/

/-- A step takes the command at the front of the queue and runs it with the queue's rest. -/
def Obligations.StepRunsTheFrontCommand : Prop :=
  ∀ (c : Instr) (rest : List Instr) (s : State),
    step { s with pending := c :: rest } = exec c { s with pending := rest }

/-- Every command answers a next state in every state, and none touches the queue of waiting commands. That it does so
also in a state where it cannot occur is the model's choice (log entry 5: no command answers a fault or a refusal). -/
def Obligations.EveryCommandAnswersAndKeepsTheQueue : Prop :=
  ∀ (c : Instr) (s : State), ∃ t, exec c s = .next t ∧ t.pending = s.pending

/-- The model's choices (log entries 2 and 3): a step on an empty queue lets one microsecond pass. The clock rises by one
microsecond; every millisecond timer of the part counts at a millisecond boundary alone, the step timer and the retry
times count microseconds, the repetition timer nanoseconds; each is held at 0 until its expiry is taken. Nothing else
changes. -/
def Obligations.IdleStepLetsAMicrosecondPass : Prop :=
  ∀ s : State, s.pending = [] → s.micros < 1000 → s.millis < 1000 → ∃ t, step s = .next t
    ∧ t.clock = s.clock + 1 ∧ t.micros < 1000 ∧ t.millis < 1000
    ∧ let ms (x : Timer) : Timer := if s.micros = 999 then x.map (· - 1) else x
      (∀ p, t.port p = { s.port p with
          attempt := ms (s.port p).attempt, glitch := ms (s.port p).glitch, window := ms (s.port p).window
          holddown := ms (s.port p).holddown, recheck := ms (s.port p).recheck })
      ∧ (∀ l, t.lane l = { s.lane l with watch := ms (s.lane l).watch })
      ∧ (∀ e, t.engine e = { s.engine e with
          warmup := ms (s.engine e).warmup, idle := ms (s.engine e).idle, step := (s.engine e).step.map (· - 1)
          repetition := (s.engine e).repetition.map (· - 1000) })
      ∧ (∀ i, t.slot i = (s.slot i).map fun x => { x with holdTimer := ms x.holdTimer })
      ∧ (∀ j, t.traceSlot j = (s.traceSlot j).map fun x => { x with hold := ms x.hold })
      ∧ t.link = { s.link with readyTimer := ms s.link.readyTimer, gap := ms s.link.gap }
      ∧ t.reference = { s.reference with qualify := ms s.reference.qualify }
      ∧ t.bus = { s.bus with
          map := s.bus.map.map fun m => { m with rePoll := ms m.rePoll }
          queue := s.bus.queue.map fun x => { x with retry := match x.retry with
            | .running n => .running (n - 1)
            | .backingOff n => .backingOff (n - 1)
            | r => r }
          slave := match s.bus.slave with
            | .stretching g n => .stretching g (if s.micros = 999 then n - 1 else n)
            | x => x }
      ∧ t.profiles = s.profiles ∧ t.routes = s.routes ∧ t.jobs = s.jobs ∧ t.store.records = s.store.records
      ∧ t.store.counter = s.store.counter ∧ t.store.order = s.store.order ∧ t.admissions = s.admissions
      ∧ t.taken = s.taken ∧ t.straps = s.straps ∧ t.pins = s.pins ∧ t.freeCount = s.freeCount
      ∧ t.pending = []

/-- R197: a power-on reset leaves every block at its reset values whatever it held, with the pins as they are now (the
queue of waiting commands is the model's and stays); and every field's value after a reset of either cause. The values
of micros and millis (log entry 2), of the lane words sent, the acknowledge bits and the bytes sent (7), of taken (8), of
freeCount (11) and of the launches, clip flags and repetition timer of an engine, the slave phase and the attempt (23) are
the model's; every other is the rules'. -/
def Obligations.ResetValues : Prop :=
  (∀ (pins : Straps) (s : State),
      exec (.powerOnReset pins) s = .next { State.resetWith .powerOn pins with pending := s.pending })
    ∧ ∀ (cause : StartCause) (pins : Straps), let s := State.resetWith cause pins
    s.seconds = 0 ∧ s.millis = 0 ∧ s.micros = 0 ∧ s.straps = pins ∧ s.pins = pins
    ∧ (∀ p, s.route p = .transceiver ∧ s.record p = none ∧ s.port p = {
        admin := .down, state := .off, cause := .none, energy := false, partner := none, candidate := none
        current := none, fails := ⟨0, 0, 0, 0, 0⟩, barred := ⟨false, false, false, false, false⟩, negFails := 0
        exhausted := false, awaiting := false, samples := 0, sum := 0, lastMargins := none, lowStreak := 0
        glitchCount := 0, flapCount := 0, attempt := none, glitch := none, window := none, holddown := none
        recheck := none, insertionLoss := none, length := none, power := .none, holdOwned := false, returnInfo := none
        active := { allowed := ⟨true, true, true, true, true⟩, ceiling := .r10G, k := 16, failsLimit := 2
                    trainTimeout := 3000, glitchMs := 4, flapLimit := 5, windowS := 30, holddownS := 60, recheckS := 120
                    autoDiagnose := true, depowerAllowed := false, profile := 0, launchOffset := 40, averaging := .n16 }
        pendingPolicy := none })
    ∧ (∀ i : Fin 8, s.profiles[i] = { nvp := 690, atten := 6, floor := 150, hard := 600, cross := 500, loss := 2200
                                      reach := ⟨100, 100, 100, 100, 100⟩ })
    ∧ (∀ l, s.lane l = { up := false, watch := none, fifo := [], ready := true, sent := [] })
    ∧ (∀ i, s.slot i = none) ∧ s.admissions = 0 ∧ s.taken = 0
    ∧ (∀ e, s.job e = none ∧ s.engine e = {
        warmth := .cold, duty := .free, slot := none, snapshot := none, averaging := none, baselines := none, a0 := none
        lowLaunch := false, pulsePair := none, accumulator := PerPair.all (Vector.replicate 1280 0)
        clip := ⟨false, false, false, false⟩, launched := 0, stages := [], warmup := none, idle := none, step := none
        repetition := none })
    ∧ s.reference = { present := true, qualify := none, losses := 0 }
    ∧ s.store.counter = 0 ∧ (∀ j, s.traceSlot j = none) ∧ s.store.order = []
    ∧ s.bus = { phase := .idle, map := [], queue := [], attempt := none, inbound := [], slave := .aside, acks := []
                out := [], counters := ⟨0, 0, 0, 0, 0, 0, 0, 0⟩ }
    ∧ s.link = { ready := false, readyTimer := some 50, receiver := .hunt, gap := none, buffer := [], waiting := none
                 sending := none, transmitter := .idle
                 notices := [.started { cause := cause, straps := pins, seconds := 0 }]
                 mask := { portChange := true, diagDone := true, powerFault := true, refChange := true }
                 counters := ⟨0, 0, 0, 0, 0, 0, 0, 0, 0⟩ }
    ∧ s.freeCount = 0 ∧ s.pending = []

/-- R198: 50 ms after a reset the line becomes READY and STARTED is the frame on the line, with the cause, the family
and part code, the straps and seconds 0. In any state whose readiness timer runs, the line becomes READY when the
timer's remaining time has passed (log entry 3), and an IDLE transmitter starts the next frame; a stopped timer has no
expiry (log entry 5). The clock's value after the reset rests on its phase there (log entry 2). -/
def Obligations.LineReadyStartsTheHeadNotice : Prop :=
  (∀ (cause : StartCause) (pins : Straps), ∃ t, exec .lineReady (State.resetWith cause pins) = .next t
      ∧ t.clock = 50000 ∧ t.link.ready = true ∧ t.link.notices = []
      ∧ t.link.onLine = some { type := 0x60, tag := 0, payload :=
          [byteOf cause.code, 0x2E, 0x48, 0x04, byteOf (LineRate.code pins.lineRate),
            byteOf (88 + pins.address.val), byteOf (BusRate.code pins.busRate), 0, 0, 0, 0] })
    ∧ (∀ (s : State) (n : Nat), s.link.readyTimer = some n →
      let u := s.runOutMs n
      let k := { u.link with ready := true, readyTimer := none }
      exec .lineReady s = .next { u with link := if s.link.transmitter = .idle then k.afterFrame else k })
    ∧ ∀ s : State, s.link.readyTimer = none → exec .lineReady s = .next s

/-! ### The receiver and the request handler -/

/-- R188, R189: what one byte does to the receiver, short of completing a frame. R190, R189: a frame whose two check
bytes are not the CRC is discarded and counted, and one whose gap timer expires is abandoned and counted; either way the
receiver is in HUNT and the buffer as it was. A byte with a framing error counts as that alone, in HUNT too (log entry
33); the gap timer's expiry comes after the time it still had to run (log entry 3), and a stopped one has none (5). -/
def Obligations.ReceiverTakesAByteOrDropsAFrame : Prop :=
  (∀ (b : Byte) (s : State),
    (∀ stop, s.link.ready = false → exec (.hostByteReceived b stop) s = .next s)
    ∧ (s.link.ready = true → exec (.hostByteReceived b false) s = .next { s with link := { s.link with
        receiver := .hunt, gap := none
        counters := { s.link.counters with framing := satInc16 s.link.counters.framing } } })
    ∧ (s.link.ready = true → s.link.receiver = .hunt → exec (.hostByteReceived b true) s = .next
        { s with link :=
          if b = 0xC3 then { s.link with receiver := .inFrame [], gap := some 2 }
          else { s.link with
            counters := { s.link.counters with huntDiscards := satInc16 s.link.counters.huntDiscards } } })
    ∧ (s.link.ready = true → s.link.receiver = .inFrame [] → exec (.hostByteReceived b true) s = .next
        { s with link :=
          if 250 < b.toNat then { s.link with
            receiver := .hunt, gap := none
            counters := { s.link.counters with oversize := satInc16 s.link.counters.oversize } }
          else { s.link with receiver := .inFrame [b], gap := some 2 } })
    ∧ ∀ (len : Byte) (got : List Byte), s.link.ready = true → s.link.receiver = .inFrame (len :: got) →
        len.toNat ≤ 250 → got.length + 2 < len.toNat + 5 →
        exec (.hostByteReceived b true) s = .next { s with link := { s.link with
          receiver := .inFrame (len :: (got ++ [b])), gap := some 2 } })
    ∧ (∀ (f : Frame) (hi lo : Byte) (s : State), f.payload.length ≤ 250 → s.link.ready = true → s.link.receiver = .hunt →
      [hi, lo] ≠ be16 (crc16 f.body).toNat →
      feed (0xC3 :: f.body ++ [hi, lo]) s = .next { s with link := { s.link with
        gap := none, counters := { s.link.counters with crc := satInc16 s.link.counters.crc } } })
    ∧ (∀ (s : State) (n : Nat) (got : List Byte), s.link.gap = some n → s.link.receiver = .inFrame got →
      let u := s.runOutMs n
      exec .gapTimerExpiry s = .next { u with link := { u.link with
        receiver := .hunt, gap := none
        counters := { u.link.counters with gapTimeouts := satInc16 u.link.counters.gapTimeouts } } })
    ∧ ∀ s : State, s.link.gap = none → exec .gapTimerExpiry s = .next s

/-- The frame encoding of section 10.2 read back (R189 to R191): the bytes of any frame with at most 250 payload bytes,
fed to a receiver in HUNT, put exactly that frame at the end of the receive buffer, or count one overrun where the
buffer holds two. -/
def Obligations.FramesAreReceivedWhole : Prop :=
  ∀ (f : Frame) (s : State), f.payload.length ≤ 250 → s.link.ready = true → s.link.receiver = .hunt →
    (s.link.buffer.length < 2 → feed f.lineBytes s = .next { s with link := { s.link with
      gap := none, buffer := s.link.buffer ++ [f]
      counters := { s.link.counters with accepted := satInc16 s.link.counters.accepted } } })
    ∧ (2 ≤ s.link.buffer.length → feed f.lineBytes s = .next { s with link := { s.link with
      gap := none, counters := { s.link.counters with overruns := satInc16 s.link.counters.overruns } } })

/-- R192, R193, R199: the handler takes the oldest frame exactly where the waiting position is empty and no PART_RESET
reply is under way. A refused TYPE or LEN reaches no owner: only its reply is placed. A PART_RESET is answered with the
reply that stops the handler. R191, R188 and the model's choice for request rows (log entry 21), stated of PORT_QUERY: a
request that the handler cannot take waits in the buffer, is an overrun where two frames wait, and is lost while the
line is NOT_READY. -/
def Obligations.HandlerTakesAFrameOrWaits : Prop :=
  (∀ s : State, s.link.buffer = [] ∨ s.link.waiting ≠ none ∨ s.link.stopped = true →
      exec .requestHandlerTake s = .next s)
    ∧ (∀ (s : State) (f : Frame) (rest : List Frame), s.link.buffer = f :: rest → s.link.waiting = none →
      s.link.stopped = false →
      let u := { s with link := { s.link with buffer := rest } }
      (¬(1 ≤ f.type.toNat ∧ f.type.toNat ≤ 0x11) →
        exec .requestHandlerTake s = .next (u.answer f.type f.tag .unknownType []))
      ∧ (1 ≤ f.type.toNat → f.type.toNat ≤ 0x11 → lengthAllowed f.type.toNat f.payload = false →
        exec .requestHandlerTake s = .next (u.answer f.type f.tag .badLength []))
      ∧ (∀ r, requestOf f.type f.payload = .ok r → let a := (u.serve r).2
        exec .requestHandlerTake s = .next ((u.serve r).1.placeReply {
          frame := { type := f.type ||| 0x80, tag := f.tag, payload := byteOf a.status.code :: a.data }
          resets := a.resets })
        ∧ (a.resets = false →
          exec .requestHandlerTake s = .next ((u.serve r).1.answer f.type f.tag a.status a.data)))
      ∧ (f.type = 0x11 → f.payload = [] → ∃ t, exec .requestHandlerTake s = .next t ∧ t.link.stopped = true
        ∧ t = u.placeReply { frame := { type := 0x91, tag := f.tag, payload := [0] }, resets := true }))
    ∧ ∀ (s : State) (tag port : Byte),
    (s.link.ready = false → exec (.portQuery tag port) s = .next s)
    ∧ (s.link.ready = true → 2 ≤ s.link.buffer.length → exec (.portQuery tag port) s = .next
        { s with link := { s.link with
          counters := { s.link.counters with overruns := satInc16 s.link.counters.overruns } } })
    ∧ (s.link.ready = true → s.link.buffer.length < 2 →
        s.link.buffer ≠ [] ∨ s.link.waiting ≠ none ∨ s.link.stopped = true →
        exec (.portQuery tag port) s = .next { s with link := { s.link with
          buffer := s.link.buffer ++ [{ type := 0x04, tag := tag, payload := [port] }]
          counters := { s.link.counters with accepted := satInc16 s.link.counters.accepted } } })

/-- R194, R101, R199: the end of a frame. The arbiter then chooses the waiting reply, else the head notice, else IDLE.
A DIAG_DONE releases its COMPLETE slot; the reply of PART_RESET resets every block, which samples the strap pins as they
now stand (log entry 4). A frame cannot end on an IDLE transmitter: nothing happens (log entry 5). -/
def Obligations.TransmitterEndsAFrame : Prop :=
  (∀ s : State, s.link.transmitter = .idle → exec .frameTransmitEnd s = .next s)
    ∧ (∀ (s : State) (r : Reply), s.link.transmitter = .reply → s.link.sending = some r → r.resets = false →
      exec .frameTransmitEnd s = .next { s with link := ({ s.link with
        sending := none
        counters := { s.link.counters with repliesSent := satInc16 s.link.counters.repliesSent } }).afterFrame })
    ∧ (∀ (s : State) (r : Reply), s.link.transmitter = .reply → s.link.sending = some r → r.resets = true →
      exec .frameTransmitEnd s = .next { State.resetWith .partReset s.pins with pending := s.pending })
    ∧ (∀ (s : State) (n : Notice), s.link.transmitter = .notice n → (∀ i d, n ≠ .diagDone i d) →
      exec .frameTransmitEnd s = .next { s with link := ({ s.link with
        counters := { s.link.counters with noticesSent := satInc16 s.link.counters.noticesSent } }).afterFrame })
    ∧ ∀ (s : State) (i : SlotId) (d : DiagDone) (x : Slot), s.link.transmitter = .notice (.diagDone i d) →
      s.slot i = some x → x.phase = .complete →
      exec .frameTransmitEnd s = .next { s.setSlot i none with link := ({ s.link with
        counters := { s.link.counters with noticesSent := satInc16 s.link.counters.noticesSent } }).afterFrame }

/-- R196, R200, R199: NOTICE_MASK replaces the mask or is refused; LINK_QUERY answers the counters from before the clear
it may ask for; PART_RESET is answered OK with the reply whose end resets the part, and stops the handler; the strap pins
have the levels that come with it (log entry 4). Each request is handled at once as its row is taken (log entry 21). -/
def Obligations.LinkRequestsAreServed : Prop :=
  ∀ (s : State) (tag b : Byte), s.handlerFree →
    (b.toNat < 16 → exec (.noticeMask tag b) s = .next
      ({ s.accepted with link := { s.accepted.link with
          mask := { portChange := b.getLsbD 0, diagDone := b.getLsbD 1, powerFault := b.getLsbD 2,
                    refChange := b.getLsbD 3 } } }.answer 0x0F tag .ok [s.link.mask.toByte, b]))
    ∧ (16 ≤ b.toNat → exec (.noticeMask tag b) s = .next (s.accepted.answer 0x0F tag .badField []))
    ∧ (b = 0 → exec (.linkQuery tag b) s = .next (s.accepted.answer 0x10 tag .ok s.accepted.linkData))
    ∧ (b = 1 → exec (.linkQuery tag b) s = .next
      ({ s.accepted with link := { s.accepted.link with counters := LinkCounters.zero } }.answer 0x10 tag .ok
        s.accepted.linkData))
    ∧ (2 ≤ b.toNat → exec (.linkQuery tag b) s = .next (s.accepted.answer 0x10 tag .badField []))
    ∧ ∀ pins : Straps, ∃ t, exec (.partReset { tag := tag, pins := pins }) s = .next t ∧ t.link.stopped = true
      ∧ t = { s.accepted with pins := pins }.placeReply
          { frame := { type := 0x91, tag := tag, payload := [0] }, resets := true }

/-! ### Notices -/

/-- R195, R196 with the counts of R32 and R186: a masked notice changes nothing; one that finds a waiting notice of its
subject takes its place with the count raised; any other joins the tail, and starts on an IDLE transmitter of a READY
line with an empty queue. Each flag of the mask enables its class, and STARTED has none. Two PORT_CHANGEs have one
subject exactly for one port, any two POWER_FAULTs and any two REF_CHANGEs do, and no other two notices. -/
def Obligations.NoticesCoalesceInPlace : Prop :=
  ∀ (s : State) (n : Notice),
    (s.link.mask.enables n = false → s.queueNotice n = s)
    ∧ (∀ before m after, s.link.mask.enables n = true → s.link.notices = before ++ m :: after →
        (∀ x ∈ before, x.sameSubject n = false) → m.sameSubject n = true →
        s.queueNotice n = { s with link := { s.link with notices := before ++ m.coalesce n :: after } })
    ∧ (s.link.mask.enables n = true → (∀ x ∈ s.link.notices, x.sameSubject n = false) →
        (s.link.ready = false ∨ s.link.transmitter ≠ .idle →
          s.queueNotice n = { s with link := { s.link with notices := s.link.notices ++ [n] } })
        ∧ (s.link.ready = true → s.link.transmitter = .idle → s.link.waiting = none → s.link.notices = [] →
          s.queueNotice n = { s with link := { s.link with transmitter := .notice n } }))
    ∧ (∀ a b : PortChange, (Notice.portChange a).coalesce (.portChange b) =
        .portChange { b with count := min (a.count + 1) 255 })
    ∧ (∀ a b : PowerFault, (Notice.powerFault a).coalesce (.powerFault b) =
        .powerFault { b with count := min (a.count + 1) 255 })
    ∧ (∀ a b : RefChange, (Notice.refChange a).coalesce (.refChange b) = .refChange b)
    ∧ (∀ (m : NoticeMask) (n : Notice), m.enables n = match n with
        | .started _ => true
        | .portChange _ => m.portChange
        | .diagDone _ _ => m.diagDone
        | .powerFault _ => m.powerFault
        | .refChange _ => m.refChange)
    ∧ ∀ m n : Notice, m.sameSubject n = true ↔
      (∃ a b, m = .portChange a ∧ n = .portChange b ∧ a.port = b.port)
        ∨ (∃ a b, m = .powerFault a ∧ n = .powerFault b) ∨ ∃ a b, m = .refChange a ∧ n = .refChange b

/-- R202 with steps 1 and 2 of R192: TYPEs 0x01 to 0x11 name requests, each with the payload lengths of the table;
TYPE is checked before LEN. R203, R204: the length of the data of every reply, by the request and the status (the status
byte is not counted), and of every notice. A refusal has no data; NOT_STORED has some where the port has a trace slot.
The ACCEPTED reply has the layout of R203, without the averaging that R193 names (log entry 34). R204, R202: the TYPE and
TAG of each notice, and what stands at each offset of its payload; unused tags are 0, and the seconds are the low 32 bits
of the count (log entry 10). -/
def Obligations.PayloadLengthsAndNoticeFields : Prop :=
  (∀ (type : Byte) (payload : List Byte),
    (requestOf type payload = .error .unknownType ↔ ¬(1 ≤ type.toNat ∧ type.toNat ≤ 0x11))
    ∧ (1 ≤ type.toNat → type.toNat ≤ 0x11 →
        (requestOf type payload = .error .badLength ↔ lengthAllowed type.toNat payload = false)
        ∧ ((∃ r, requestOf type payload = .ok r) ↔ lengthAllowed type.toNat payload = true)))
    ∧ (∀ (s : State) (r : Request), let a := (s.serve r).2
      (a.status = .ok → a.data.length = match r with
        | .portAdmin _ _ => 3
        | .portRetrain _ => 3
        | .ladderClear _ => 2
        | .portQuery _ => 67
        | .portPolicy _ _ _ => 41
        | .profileWrite _ _ => 17
        | .profileRead _ => 17
        | .diagRequest _ _ _ _ _ _ _ => 0
        | .diagCancel _ => 3
        | .engineQuery sel start => if sel = 0 then 73 else 3 + 18 * min 12 (s.tableList.length - start.toNat)
        | .cableQuery _ => 130
        | .tracePage _ _ => 143
        | .powerMap l => 1 + 4 * l.length
        | .powerQuery => 70 + 9 * s.bus.map.length + 6 * s.bus.queue.length
        | .noticeMask _ => 2
        | .linkQuery _ => 32
        | .partReset => 0)
      ∧ (a.status = .accepted → a.data.length = 9) ∧ (a.status = .notCancelled → a.data.length = 3)
      ∧ (a.status = .notStored → a.data.length = match r with
        | .tracePage port _ =>
          if ∃ p : PortId, port.toNat = p.val ∧ (s.store.readable p).isSome = true then 15 else 0
        | _ => 0)
      ∧ (a.status ≠ .ok → a.status ≠ .accepted → a.status ≠ .notCancelled → a.status ≠ .notStored → a.data = [])
      ∧ (a.resets = true ↔ r = .partReset))
    ∧ (∀ n : Notice, n.payload.length = match n with
      | .started _ => 11
      | .portChange _ => 11
      | .diagDone _ _ => 31
      | .powerFault _ => 7
      | .refChange _ => 7)
    ∧ (∀ n : Notice, n.frame = { tag := 0, payload := n.payload, type := match n with
      | .started _ => 0x60
      | .portChange _ => 0x61
      | .diagDone _ _ => 0x62
      | .powerFault _ => 0x63
      | .refChange _ => 0x64 })
    ∧ (∀ n : Started, let l := (Notice.started n).payload
      holdsAt l 0 [byteOf n.cause.code, 0x2E, 0x48, 0x04, byteOf (LineRate.code n.straps.lineRate),
        byteOf (88 + n.straps.address.val), byteOf (BusRate.code n.straps.busRate)] ∧ holdsAt l 7 (be32 n.seconds))
    ∧ (∀ n : PortChange, let l := (Notice.portChange n).payload
      holdsAt l 0 [byteOf n.port.val, byteOf n.state.code, byteOf n.cause.code, byteOf n.admin.code,
        optByte (n.current.map Rate.code), boolByte n.exhausted]
      ∧ holdsAt l 6 (be32 n.seconds) ∧ holdsAt l 10 [byteOf n.count])
    ∧ (∀ (i : SlotId) (n : DiagDone), let l := (Notice.diagDone i n).payload
      holdsAt l 0 [byteOf n.port.val, byteOf n.outcome.code] ∧ holdsAt l 2 (be32 n.seq)
      ∧ holdsAt l 6 [byteOf n.kind.code, optByte (n.kind.pair?.map Pair.code)]
      ∧ holdsAt l 8 [byteOf n.urgency.code, byteOf n.averaging.toNat, byteOf n.origin.code]
      ∧ holdsAt l 11 [optByte (n.engine.map fun e => e.val)]
      ∧ (∀ rc, n.receipt = some rc → holdsAt l 12 [boolByte rc.traceDropped] ∧ holdsAt l 13 (be32 rc.seq)
          ∧ holdsAt l 17 [byteOf rc.verdict.code])
      ∧ (n.receipt = none → holdsAt l 12 [0, 0, 0, 0, 0, 0xFF])
      ∧ holdsAt l 18 (be32 n.seconds) ∧ holdsAt l 22 [byteOf n.tags.length]
      ∧ ∀ k, k < 4 → holdsAt l (23 + 2 * k) (match n.tags[k]? with
          | some tag => be16 tag
          | none => [0, 0]))
    ∧ (∀ n : PowerFault, let l := (Notice.powerFault n).payload
      holdsAt l 0 [byteOf n.kind.code, optByte n.address, byteOf n.count] ∧ holdsAt l 3 (be32 n.seconds))
    ∧ ∀ n : RefChange, let l := (Notice.refChange n).payload
      holdsAt l 0 [boolByte n.present] ∧ holdsAt l 1 (be16 n.losses) ∧ holdsAt l 3 (be32 n.seconds)

/-- R31, R155, R200 with R203: what stands at each offset of the PORT_QUERY, CABLE_QUERY and LINK_QUERY replies with
status OK, the status at offset 0. An absent item and a stopped timer are all ones, an absent margin 0x8000; the seconds
are the low 32 bits of the count (log entry 10). R65, R66, R73, R86 with R203: the same of the PORT_POLICY reply, of the
policy record and the profile entry that replies carry, and of the ACCEPTED reply of DIAG_REQUEST, which follows the
layout of R203 and so has no averaging (log entry 34). -/
def Obligations.ReplyFields : Prop :=
  (∀ (s : State) (p : PortId) (d : PolicyDisposition), let c := s.port p
    let l := byteOf Status.ok.code :: s.policyData p d
    l.length = 42 ∧ holdsAt l 0 [0, byteOf p.val, match d with
      | .latched => 0
      | .pending => 1
      | .read => 2
      | .removed => 3
      | .nothingPending => 4]
    ∧ holdsAt l 3 c.active.toBytes ∧ holdsAt l 22 [boolByte c.pendingPolicy.isSome]
    ∧ (∀ q, c.pendingPolicy = some q → holdsAt l 23 q.toBytes)
    ∧ (c.pendingPolicy = none → holdsAt l 23 (List.replicate 19 0)))
    ∧ (∀ q : Policy, let l := q.toBytes
      l.length = 19
      ∧ (∃ b : Byte, holdsAt l 0 [b] ∧ b.toNat < 32 ∧ ∀ r : Rate, b.getLsbD (4 - r.code) = q.allowed.get r)
      ∧ holdsAt l 1 [byteOf q.ceiling.code, byteOf q.k, byteOf q.failsLimit] ∧ holdsAt l 4 (be16 q.trainTimeout)
      ∧ holdsAt l 6 [byteOf q.glitchMs, byteOf q.flapLimit] ∧ holdsAt l 8 (be16 q.windowS)
      ∧ holdsAt l 10 (be16 q.holddownS) ∧ holdsAt l 12 (be16 q.recheckS)
      ∧ holdsAt l 14 [boolByte q.autoDiagnose, boolByte q.depowerAllowed, byteOf q.profile.val, byteOf q.launchOffset,
          byteOf q.averaging.toNat])
    ∧ (∀ e : Profile, let l := e.toBytes
      l.length = 16 ∧ holdsAt l 0 (be16 e.nvp) ∧ holdsAt l 2 [byteOf e.atten] ∧ holdsAt l 3 (be16 e.floor)
      ∧ holdsAt l 5 (be16 e.hard) ∧ holdsAt l 7 (be16 e.cross) ∧ holdsAt l 9 (be16 e.loss)
      ∧ ∀ r : Rate, holdsAt l (11 + r.code) [byteOf (e.reach.get r)])
    ∧ (∀ (d : Disposition) (x : Slot), let l := byteOf Status.accepted.code :: acceptedData d x
      l.length = 10 ∧ holdsAt l 0 [1] ∧ holdsAt l 1 (be32 x.seq)
      ∧ holdsAt l 5 [match d with
          | .queued => 0
          | .merged => 1
          | .passive => 2]
      ∧ holdsAt l 6 [byteOf x.kind.code, optByte (x.kind.pair?.map Pair.code), byteOf x.urgency.code,
          byteOf x.tags.length])
    ∧ (∀ (s : State) (p : PortId), let c := s.port p
    let l := byteOf Status.ok.code :: s.portQueryData p
    let info {α : Type} (f : ReturnInfo → α) (g : α → Nat) : Byte := optByte (c.returnInfo.map fun i => g (f i))
    holdsAt l 0 [0, byteOf p.val, byteOf c.admin.code, byteOf c.state.code, byteOf c.cause.code, boolByte c.energy]
    ∧ holdsAt l 6 [(c.partner.map RateSet.toByte).getD 0xFF, optByte (c.candidate.map Rate.code),
        optByte (c.current.map Rate.code)]
    ∧ (∀ r : Rate, holdsAt l (9 + r.code) [byteOf (c.fails.get r % 8 + if c.barred.get r then 128 else 0)])
    ∧ holdsAt l 14 ([byteOf c.negFails, boolByte c.exhausted, byteOf c.samples] ++ signed16 c.sum)
    ∧ holdsAt l 19 [optByte (c.lastMargins.map fun m => m.rate.code)]
    ∧ (∀ x : Pair, holdsAt l (20 + 2 * x.code) (optSigned16 (c.lastMargins.map fun m => m.margins.get x)))
    ∧ holdsAt l 28 [byteOf c.lowStreak] ∧ holdsAt l 29 (be16 c.glitchCount) ∧ holdsAt l 31 [byteOf c.flapCount]
    ∧ holdsAt l 32 (opt32 c.attempt) ∧ holdsAt l 36 (opt32 c.glitch) ∧ holdsAt l 40 (opt32 c.window)
    ∧ holdsAt l 44 (opt32 c.holddown) ∧ holdsAt l 48 (opt32 c.recheck) ∧ holdsAt l 52 (opt16 c.insertionLoss)
    ∧ holdsAt l 54 (opt16 (c.length.map fun x => x.cm))
    ∧ holdsAt l 56 [optByte (c.length.map fun x => x.source.code), byteOf c.power.code, boolByte c.holdOwned]
    ∧ holdsAt l 59 [info (·.admin) Admin.code] ∧ holdsAt l 60 (opt32 (c.returnInfo.map fun i => i.holddown))
    ∧ holdsAt l 64 [info (·.state) PortState.code, info (·.cause) Cause.code]
    ∧ holdsAt l 66 [byteOf c.active.profile.val, boolByte c.pendingPolicy.isSome])
    ∧ (∀ (s : State) (p : PortId) (r : Record), let l := byteOf Status.ok.code :: s.cableData p r
      holdsAt l 0 [0, byteOf p.val] ∧ holdsAt l 2 (be32 r.seq) ∧ holdsAt l 6 (be32 r.stamp)
      ∧ holdsAt l 10 [byteOf r.kind.code, optByte (r.kind.pair?.map Pair.code), byteOf r.profile.val,
          byteOf r.averaging.toNat]
      ∧ (∃ b : Byte, holdsAt l 14 [b] ∧ b.toNat < 8 ∧ b.getLsbD 0 = r.lowLaunch ∧ b.getLsbD 1 = r.traceDropped
          ∧ (b.getLsbD 2 = true ↔ ∃ j t, s.traceSlot j = some t ∧ t.port = p ∧ t.stale = false ∧ t.seq = r.seq))
      ∧ holdsAt l 15 [byteOf r.verdict.code] ∧ holdsAt l 16 (opt16 (r.length.map fun x => x.cm))
      ∧ holdsAt l 18 [optByte (r.length.map fun x => x.source.code)]
      ∧ ∀ x : Pair, let y := r.pairs.get x
        let at_ := 19 + 28 * x.code
        holdsAt l at_ [optByte (y.status.map PairStatus.code),
          byteOf ((if y.truncated then 1 else 0) + (if y.saturated then 2 else 0))]
        ∧ holdsAt l (at_ + 2) (opt16 y.coupling) ∧ holdsAt l (at_ + 4) (optSigned16 y.margin)
        ∧ holdsAt l (at_ + 6) [byteOf (min 3 y.findings.length)]
        ∧ ∀ k, k < 3 → holdsAt l (at_ + 7 + 7 * k) (match y.findings[k]? with
          | some f => [byteOf f.kind.code] ++ be16 f.distance ++ signed16 f.rho
              ++ [boolByte f.saturated, optByte (f.partner.map Pair.code)]
          | none => [0, 0, 0, 0, 0, 0, 0]))
    ∧ ∀ s : State, let l := byteOf Status.ok.code :: s.linkData
      let c := s.link.counters
      holdsAt l 0 [0, byteOf (LineRate.code s.straps.lineRate)] ∧ holdsAt l 2 (be32 s.seconds)
      ∧ holdsAt l 6 (be16 c.framing ++ be16 c.gapTimeouts ++ be16 c.crc ++ be16 c.oversize ++ be16 c.overruns
          ++ be16 c.huntDiscards ++ be16 c.accepted ++ be16 c.repliesSent ++ be16 c.noticesSent)
      ∧ holdsAt l 24 [byteOf s.link.buffer.length, boolByte (s.link.transmitter == .reply), s.link.mask.toByte,
          byteOf s.link.notices.length]
      ∧ (∀ k, k < 5 → holdsAt l (28 + k) [byteOf (s.link.notices.filter fun n => n.type == byteOf (0x60 + k)).length])
      ∧ s.link.mask.toByte.toNat = (if s.link.mask.portChange then 1 else 0) + (if s.link.mask.diagDone then 2 else 0)
          + (if s.link.mask.powerFault then 4 else 0) + (if s.link.mask.refChange then 8 else 0)

/-- R103, R170, R168 with R203: what stands at each offset of the ENGINE_QUERY, POWER_QUERY and POWER_MAP replies with
status OK, and the order of the list that TABLE shows: the QUEUED slots in grant order, then the ASSIGNED slots by engine
number, then the COMPLETE slots by age. -/
def Obligations.TableReplyFields : Prop :=
  (∀ s : State, let l := byteOf Status.ok.code :: s.enginesData
    let count (f : Slot → Bool) : Byte := byteOf (s.slots.toList.filter fun x => (x.map f).getD false).length
    holdsAt l 0 [0, boolByte s.reference.present]
    ∧ (∀ e : EngineId, let c := s.engine e
      holdsAt l (2 + 16 * e.val) ([byteOf c.warmth.code, byteOf c.duty.code, optByte (c.slot.map fun x => x.port.val)]
        ++ opt32 (c.slot.map fun x => x.seq) ++ [optByte (c.snapshot.map fun x => x.index.val),
          optByte (c.snapshot.map fun x => x.launchOffset)] ++ opt16 c.a0
        ++ [if c.a0.isSome then boolByte c.lowLaunch else 0xFF] ++ opt32 c.idle))
    ∧ holdsAt l 66 [byteOf (s.slots.toList.filter fun x => x.isNone).length, count fun x => x.phase == .queued,
        count fun x => x.phase.isAssigned, count fun x => x.phase == .complete]
    ∧ holdsAt l 70 (be32 s.admissions))
    ∧ (∀ (s : State) (start : Nat), let l := byteOf Status.ok.code :: s.tableData start
      holdsAt l 0 [0, byteOf s.tableList.length, byteOf start, byteOf (min 12 (s.tableList.length - start))]
      ∧ (∃ done : List Slot, done.Perm (s.slots.toList.filterMap fun x => x.filter fun y => y.phase == .complete)
          ∧ done.Pairwise (fun x y => x.age ≤ y.age)
          ∧ s.tableList = s.grantOrder.filterMap s.slot
              ++ (List.finRange 4).filterMap (fun e => (s.slotOfEngine e).bind s.slot) ++ done)
      ∧ ∀ k x, k < 12 → s.tableList[start + k]? = some x → holdsAt l (4 + 18 * k)
          ([byteOf x.port.val, byteOf x.phase.code,
            optByte (match x.phase with | .assigned e => some e.val | _ => none), byteOf x.kind.code,
            optByte (x.kind.pair?.map Pair.code), byteOf x.urgency.code, byteOf x.origin.code, boolByte x.force,
            byteOf x.averaging.toNat, byteOf x.tags.length] ++ be32 x.seq ++ opt32 x.holdTimer))
    ∧ (∀ s : State, let l := byteOf Status.ok.code :: s.powerData
      let b := s.bus
      let n := b.map.length
      let q := b.queue.length
      holdsAt l 0 [0, byteOf (88 + s.straps.address.val), byteOf (BusRate.code s.straps.busRate), byteOf b.phase.code,
        byteOf n]
      ∧ (∀ k m, b.map[k]? = some m → holdsAt l (5 + 9 * k) ([byteOf m.address, byteOf m.first, byteOf m.count,
          byteOf m.presence.code, byteOf m.nacks] ++ opt32 m.rePoll))
      ∧ (∀ p : PortId, holdsAt l (5 + 9 * n + p.val)
          [byteOf ((s.port p).power.code + if (s.port p).holdOwned then 128 else 0)])
      ∧ holdsAt l (53 + 9 * n) [byteOf q]
      ∧ (∀ k x, b.queue[k]? = some x → ∃ now : Byte, (now = 0 ∨ now = 1)
          ∧ (now = 1 ↔ ∃ a, b.attempt = some a ∧ a.orphan = false ∧ a.address = x.address ∧ a.kind = x.kind)
          ∧ holdsAt l (54 + 9 * n + 6 * k)
              ([byteOf x.address, byteOf x.kind.code] ++ be16 x.mask.toNat ++ [byteOf x.losses, now]))
      ∧ holdsAt l (54 + 9 * n + 6 * q) [byteOf b.inbound.length]
      ∧ holdsAt l (55 + 9 * n + 6 * q) (be16 b.counters.arbitrationLosses ++ be16 b.counters.addressNacks
          ++ be16 b.counters.dataNacks ++ be16 b.counters.dropped ++ be16 b.counters.stuck ++ be16 b.counters.accepted
          ++ be16 b.counters.bytesRefused ++ be16 b.counters.refusedFull))
    ∧ ∀ s : State, let l := byteOf Status.ok.code :: s.mapData
      holdsAt l 0 [0, byteOf s.bus.map.length]
      ∧ ∀ k m, s.bus.map[k]? = some m → holdsAt l (2 + 4 * k)
          [byteOf m.address, byteOf m.first, byteOf m.count, byteOf m.presence.code]

/-! ### Port administration -/

/-- R3 to R6, R68: PORT_ADMIN. UP takes a port from OFF to LISTEN, its pending policy latched, energy absent, the window
timer loaded and RECONNECT sent; in DIAGNOSE admin is UP again; an UP port is left alone. DOWN takes a port outside OFF
and DIAGNOSE to OFF with the clearing of R4, its pending policy latched and HALT sent; in DIAGNOSE only admin and the
window timer change; in OFF nothing does. A bad port is refused. The entry into LISTEN empties the verify accumulator
(section 4.3; log entry 12), and the request is handled at once as its row is taken (log entry 21). -/
def Obligations.PortAdmin : Prop :=
  ∀ (s : State) (tag port : Byte), s.handlerFree →
    (∀ p : PortId, port.toNat = p.val →
      let c := s.port p
      let up := { c with admin := .up, window := some (1000 * c.active.windowS) : PortCtx }
      let off := { c with
        admin := .down, state := .off, cause := .none, fails := PerRate.all 0, barred := PerRate.all false
        negFails := 0, exhausted := false, awaiting := false, lowStreak := 0, flapCount := 0, glitchCount := 0
        samples := 0, sum := 0, partner := none, candidate := none, current := none, attempt := none, glitch := none
        window := none, holddown := none, recheck := none : PortCtx }
      (c.admin = .up → exec (.portAdminUp tag port) s = .next
        (s.accepted.answer 0x01 tag .ok [port, 1, byteOf c.state.code]))
      ∧ (c.admin = .down → c.state = .off → exec (.portAdminUp tag port) s = .next
        (((s.accepted.changeState p (up.listening c.cause).latch).sendLane p .reconnect).answer 0x01 tag .ok
          [port, 1, 1]))
      ∧ (c.admin = .down → c.state = .diagnose → exec (.portAdminUp tag port) s = .next
        ((s.accepted.setPort p up).answer 0x01 tag .ok [port, 1, 7]))
      ∧ (c.state = .off → exec (.portAdminDown tag port) s = .next
        (s.accepted.answer 0x01 tag .ok [port, byteOf c.admin.code, 0]))
      ∧ (c.state = .diagnose → exec (.portAdminDown tag port) s = .next
        ((s.accepted.setPort p { c with admin := .down, window := none }).answer 0x01 tag .ok [port, 0, 7]))
      ∧ (c.state ≠ .off → c.state ≠ .diagnose → exec (.portAdminDown tag port) s = .next
        (((s.accepted.changeState p off.latch).sendLane p .halt).answer 0x01 tag .ok [port, 0, 0])))
    ∧ (48 ≤ port.toNat → exec (.portAdminUp tag port) s = .next (s.accepted.answer 0x01 tag .badField [])
      ∧ exec (.portAdminDown tag port) s = .next (s.accepted.answer 0x01 tag .badField []))

/-- R22: PORT_RETRAIN from UP, TRAIN or VERIFY enters NEGOTIATE with cause RETRAIN and no fail counted; in NEGOTIATE it
restarts the negotiation; both send RENEGOTIATE; elsewhere it has no effect. R30: LADDER_CLEAR clears the ladder, neg
fail count and exhausted in every state, and takes a FAULTED port to LISTEN with RECONNECT. That entry empties the verify
accumulator (deduced from section 4.3, log entry 12); the request is handled at once as its row is taken (log entry
21). -/
def Obligations.RetrainAndLadderClear : Prop :=
  ∀ (s : State) (tag port : Byte), s.handlerFree →
    (∀ p : PortId, port.toNat = p.val →
      let c := s.port p
      let cleared := { c with
        fails := PerRate.all 0, barred := PerRate.all false, negFails := 0, exhausted := false : PortCtx }
      (c.state = .up ∨ c.state = .train ∨ c.state = .verify → exec (.portRetrain tag port) s = .next
        (((s.accepted.changeState p (c.latch.negotiating .retrain)).sendLane p .renegotiate).answer 0x02 tag .ok
          [port, 1, 2]))
      ∧ (c.state = .negotiate → c.awaiting = false → exec (.portRetrain tag port) s = .next
        (((s.accepted.setPort p { c with cause := .retrain, partner := none, attempt := some 2000 }).sendLane p
          .renegotiate).answer 0x02 tag .ok [port, 1, 2]))
      ∧ (¬c.inBringUp → exec (.portRetrain tag port) s = .next
        (s.accepted.answer 0x02 tag .ok [port, 0, byteOf c.state.code]))
      ∧ (c.state ≠ .faulted → exec (.ladderClear tag port) s = .next
        ((s.accepted.setPort p cleared).answer 0x03 tag .ok [port, byteOf c.state.code]))
      ∧ (c.state = .faulted → exec (.ladderClear tag port) s = .next
        (((s.accepted.changeState p (cleared.listening c.cause).latch).sendLane p .reconnect).answer 0x03 tag .ok
          [port, 1])))
    ∧ (48 ≤ port.toNat → exec (.portRetrain tag port) s = .next (s.accepted.answer 0x02 tag .badField [])
      ∧ exec (.ladderClear tag port) s = .next (s.accepted.answer 0x03 tag .badField []))

/-- R31, R66, R73, R103, R155, R170: each query answers its snapshot and changes nothing else; a field out of range, or
an absent record, is answered with the status alone. Each query is handled at once as its row is taken (log entry 21). -/
def Obligations.QueriesAnswerAndChangeNothing : Prop :=
  ∀ (s : State) (tag b : Byte), s.handlerFree →
    (∀ p : PortId, b.toNat = p.val →
      exec (.portQuery tag b) s = .next (s.accepted.answer 0x04 tag .ok (s.accepted.portQueryData p))
      ∧ exec (.portPolicyRead tag b) s = .next (s.accepted.answer 0x05 tag .ok (s.accepted.policyData p .read))
      ∧ exec (.cableQuery tag b) s = .next (match s.record p with
        | none => s.accepted.answer 0x0B tag .notStored []
        | some r => s.accepted.answer 0x0B tag .ok (s.accepted.cableData p r)))
    ∧ (48 ≤ b.toNat → exec (.portQuery tag b) s = .next (s.accepted.answer 0x04 tag .badField [])
      ∧ exec (.portPolicyRead tag b) s = .next (s.accepted.answer 0x05 tag .badField [])
      ∧ exec (.cableQuery tag b) s = .next (s.accepted.answer 0x0B tag .badField []))
    ∧ (∀ i : Fin 8, b.toNat = i.val → exec (.profileRead tag b) s = .next
        (s.accepted.answer 0x07 tag .ok (b :: (s.profiles[i]).toBytes)))
    ∧ (8 ≤ b.toNat → exec (.profileRead tag b) s = .next (s.accepted.answer 0x07 tag .badField []))
    ∧ exec (.engineQueryEngines tag) s = .next (s.accepted.answer 0x0A tag .ok s.accepted.enginesData)
    ∧ (b.toNat < 32 → exec (.engineQueryTable tag b) s = .next
        (s.accepted.answer 0x0A tag .ok (s.accepted.tableData b.toNat)))
    ∧ (32 ≤ b.toNat → exec (.engineQueryTable tag b) s = .next (s.accepted.answer 0x0A tag .badField []))
    ∧ exec (.powerQuery tag) s = .next (s.accepted.answer 0x0E tag .ok s.accepted.powerData)

/-! ### Policies and profiles -/

/-- R65, R66: a checked WRITE replaces the pending policy and is latched at once in OFF, LISTEN and FAULTED; DISCARD
removes a pending policy and keeps the active one; a refused request changes nothing. R68: what a latch does to a port's
ladder, flap count and recheck timer, and what it leaves. The requests are handled at once as their rows are taken (log
entry 21). -/
def Obligations.PolicyWriteLatchAndDiscard : Prop :=
  (∀ (s : State) (tag port : Byte) (raw : RawPolicy), s.handlerFree →
    (∀ (p : PortId) (q : Policy), port.toNat = p.val → Policy.ofRaw raw = some q →
      let c := { s.port p with pendingPolicy := some q }
      (c.state = .off ∨ c.state = .listen ∨ c.state = .faulted →
        let t := s.accepted.setPort p c.latch
        exec (.portPolicyWrite tag port raw) s = .next (t.answer 0x05 tag .ok (t.policyData p .latched))
        ∧ (t.port p).active = q ∧ (t.port p).pendingPolicy = none)
      ∧ (c.state ≠ .off → c.state ≠ .listen → c.state ≠ .faulted →
        let t := s.accepted.setPort p c
        exec (.portPolicyWrite tag port raw) s = .next (t.answer 0x05 tag .ok (t.policyData p .pending))))
    ∧ (48 ≤ port.toNat ∨ Policy.ofRaw raw = none →
        exec (.portPolicyWrite tag port raw) s = .next (s.accepted.answer 0x05 tag .badField []))
    ∧ (∀ p : PortId, port.toNat = p.val →
      let t := s.accepted.setPort p { s.port p with pendingPolicy := none }
      exec (.portPolicyDiscard tag port) s = .next (t.answer 0x05 tag .ok
        (t.policyData p (if (s.port p).pendingPolicy = none then .nothingPending else .removed))))
    ∧ (48 ≤ port.toNat → exec (.portPolicyDiscard tag port) s = .next (s.accepted.answer 0x05 tag .badField [])))
    ∧ ∀ (c : PortCtx) (q : Policy), c.pendingPolicy = some q →
    c.latch.active = q ∧ c.latch.pendingPolicy = none
    ∧ (∀ r, c.latch.fails.get r = min (c.fails.get r) q.failsLimit
        ∧ (c.latch.barred.get r = true ↔ q.failsLimit ≤ c.fails.get r))
    ∧ (c.flapCount < q.flapLimit → c.latch.flapCount = c.flapCount)
    ∧ (q.flapLimit ≤ c.flapCount → c.latch.flapCount = q.flapLimit - 1)
    ∧ c.latch.recheck = (if c.state = .faulted ∧ c.recheck = none ∧ q.recheckS ≠ 0 then some (1000 * q.recheckS)
        else c.recheck)
    ∧ c.latch = { c with
        active := c.latch.active, pendingPolicy := c.latch.pendingPolicy, fails := c.latch.fails
        barred := c.latch.barred, flapCount := c.latch.flapCount, recheck := c.latch.recheck }

/-- R64: which policy records are refused, and what the clamp stores in each field. R203 with R64 and R72: the record of a
reply, sent back in a WRITE, stores the same policy or profile, for every policy and profile that a port or the table
can hold. -/
def Obligations.PolicyRecords : Prop :=
  (∀ raw : RawPolicy,
    (Policy.ofRaw raw = none ↔ raw.allowed = 0 ∨ 32 ≤ raw.allowed.toNat ∨ 5 ≤ raw.ceiling.toNat
      ∨ 2 ≤ raw.autoDiagnose.toNat ∨ 2 ≤ raw.depowerAllowed.toNat ∨ 8 ≤ raw.profile.toNat)
    ∧ ∀ q, Policy.ofRaw raw = some q →
      q.inRange ∧ q.k = max 4 (min 64 raw.k.toNat) ∧ q.failsLimit = max 1 (min 4 raw.failsLimit.toNat)
      ∧ q.trainTimeout = max 500 (min 8000 raw.trainTimeout.toNat) ∧ q.glitchMs = max 1 (min 50 raw.glitchMs.toNat)
      ∧ q.flapLimit = max 2 (min 20 raw.flapLimit.toNat) ∧ q.windowS = max 5 (min 600 raw.windowS.toNat)
      ∧ q.holddownS = max 10 (min 3600 raw.holddownS.toNat)
      ∧ q.recheckS = (if raw.recheckS.toNat = 0 then 0 else max 10 (min 3600 raw.recheckS.toNat))
      ∧ q.launchOffset = raw.launchOffset.toNat ∧ q.ceiling.code = raw.ceiling.toNat
      ∧ q.allowed.toByte = raw.allowed ∧ q.profile.val = raw.profile.toNat
      ∧ q.averaging.toNat = (if raw.averaging.toNat ≤ 1 then 1 else if raw.averaging.toNat ≤ 4 then 4
          else if raw.averaging.toNat ≤ 16 then 16 else 64)
      ∧ (q.autoDiagnose = true ↔ raw.autoDiagnose = 1) ∧ (q.depowerAllowed = true ↔ raw.depowerAllowed = 1))
    ∧ (∀ q : Policy, q.inRange → (RawPolicy.ofBytes q.toBytes).bind Policy.ofRaw = some q)
    ∧ ∀ e : Profile, e.inRange → (RawProfile.ofBytes e.toBytes).bind Profile.ofRaw = some e

/-- R72: PROFILE_WRITE clamps every field, then refuses a hard threshold that is not above the floor; an accepted one
replaces the whole entry and no other. The request is handled at once as its row is taken (log entry 21). -/
def Obligations.ProfileWrite : Prop :=
  ∀ (s : State) (tag index : Byte) (raw : RawProfile), s.handlerFree →
    let hard := max 300 (min 950 raw.hard.toNat)
    let floor := max 50 (min 500 raw.floor.toNat)
    (∀ i : Fin 8, index.toNat = i.val → floor < hard →
      let e : Profile :=
        { nvp := max 500 (min 900 raw.nvp.toNat), atten := min 20 raw.atten.toNat, floor := floor, hard := hard
          cross := max 100 (min 900 raw.cross.toNat), loss := max 500 (min 6000 raw.loss.toNat)
          reach := { r10G := min 200 raw.reach10G.toNat, r5G := min 200 raw.reach5G.toNat
                     r2G5 := min 200 raw.reach2G5.toNat, r1G := min 200 raw.reach1G.toNat
                     r100M := min 200 raw.reach100M.toNat } }
      exec (.profileWrite tag index raw) s = .next
        ({ s.accepted with profiles := s.profiles.set i e }.answer 0x06 tag .ok (index :: e.toBytes)))
    ∧ (8 ≤ index.toNat ∨ hard ≤ floor →
        exec (.profileWrite tag index raw) s = .next (s.accepted.answer 0x06 tag .badField []))

/-! ### Measurement requests -/

/-- R81, R83 to R86: DIAG_REQUEST. A bad field is refused; a request of kind PASSIVE, an unforced one for a port that is
UP, and one for a POWERED port whose policy forbids depowering are served passively; any other merges into the port's
QUEUED slot, which holds at most 4 tags, or takes a free slot (the lowest: DESIGN CHOICE, log entry 8); a full table
refuses. The fields of a new slot, and the admission counter, which goes from its largest value to 1 (R80, R85); the age
is a count of the slots taken (log entry 8). R82: the part's own requests go the same way, with class and origin AUTO,
the averaging of the active policy, no force and no tag, so that no tag limit meets them. The reply shows a slot
released within the handling as it was taken or merged (log entry 26). The request is handled at once as its row is
taken (log entry 21). -/
def Obligations.DiagRequestAdmission : Prop :=
  (∀ s : State, let n := if s.admissions < 4294967295 then s.admissions + 1 else 1
    (∀ (a : Ask) (k : Kind), s.newSlot a k = {
        phase := .queued, port := a.port, kind := k, urgency := a.urgency, averaging := a.averaging, force := a.force
        origin := a.origin, tags := a.tag.toList, seq := n, age := s.taken, holdTimer := none, outcome := none
        receipt := none })
    ∧ s.countAdmission = { s with admissions := n, taken := s.taken + 1 })
    ∧ (∀ (s : State) (p : PortId) (kind : Kind), let c := s.port p
      let a : Ask := { port := p, kind := kind, urgency := .auto, averaging := c.active.averaging, force := false
                       origin := .auto, tag := none }
      let passive := kind = .passive ∨ c.state = .up ∨ (c.power = .powered ∧ c.active.depowerAllowed = false)
      (passive → s.freeSlot = none → s.offerAuto p kind = (s, .tableFull))
      ∧ (passive → ∀ i, s.freeSlot = some i →
        let r := s.storeResult p (s.passiveFor p a.averaging)
        let x := s.newSlot a .passive
        s.offerAuto p kind = (r.1.countAdmission.completeSlot i x .passive none (some r.2),
          .admitted .passive { x with phase := .complete, outcome := some .passive, receipt := some r.2 }))
      ∧ (¬passive → ∀ i x, s.queuedSlot p = some i → s.slot i = some x →
        let t := (s.setSlot i (some (x.mergeAsk a))).grantScan
        s.offerAuto p kind = (t, .admitted .merged ((t.slot i).getD (x.mergeAsk a))))
      ∧ (¬passive → s.queuedSlot p = none → ∀ i, s.freeSlot = some i →
        let t := (s.countAdmission.setSlot i (some (s.newSlot a kind))).grantScan
        s.offerAuto p kind = (t, .admitted .queued ((t.slot i).getD (s.newSlot a kind))))
      ∧ (¬passive → s.queuedSlot p = none → s.freeSlot = none → s.offerAuto p kind = (s, .tableFull)))
    ∧ ∀ (s : State) (tag port kind pair cls averaging force : Byte) (dt : Half), s.handlerFree →
    let c := Instr.diagRequest tag port kind pair cls averaging force dt
    (48 ≤ port.toNat ∨ 4 ≤ kind.toNat ∨ (kind = 1 ∧ 4 ≤ pair.toNat) ∨ (cls ≠ 0 ∧ cls ≠ 2) ∨ 2 ≤ force.toNat ∨ dt = 0 →
      exec c s = .next (s.accepted.answer 0x08 tag .badField []))
    ∧ ∀ (p : PortId) (k : Kind) (u : Urgency) (f : Bool), port.toNat = p.val → kindOfBytes kind pair = some k →
      urgencyOfByte cls = some u → boolOfCode force.toNat = some f → dt ≠ 0 →
      let a : Ask := { port := p, kind := k, urgency := u, averaging := Averaging.round averaging.toNat, force := f,
                       origin := .host, tag := some dt.toNat }
      let passive := k = .passive ∨ ((s.port p).state = .up ∧ f = false)
        ∨ ((s.port p).power = .powered ∧ (s.port p).active.depowerAllowed = false)
      (passive → s.freeSlot = none → exec c s = .next (s.accepted.answer 0x08 tag .queueFull []))
      ∧ (passive → ∀ i, s.freeSlot = some i →
        let r := s.accepted.storeResult p (s.accepted.passiveFor p a.averaging)
        let x := s.newSlot a .passive
        exec c s = .next ((r.1.countAdmission.completeSlot i x .passive none (some r.2)).answer 0x08 tag .accepted
          (acceptedData .passive x)))
      ∧ (¬passive → ∀ i x, s.queuedSlot p = some i → s.slot i = some x →
        let t := (s.accepted.setSlot i (some (x.mergeAsk a))).grantScan
        (x.tags.length < 4 → exec c s = .next
          (t.answer 0x08 tag .accepted (acceptedData .merged ((t.slot i).getD (x.mergeAsk a)))))
        ∧ (4 ≤ x.tags.length → exec c s = .next (s.accepted.answer 0x08 tag .tagLimit [])))
      ∧ (¬passive → s.queuedSlot p = none → ∀ i, s.freeSlot = some i →
        let t := (s.accepted.countAdmission.setSlot i (some (s.newSlot a k))).grantScan
        exec c s = .next (t.answer 0x08 tag .accepted (acceptedData .queued ((t.slot i).getD (s.newSlot a k)))))
      ∧ (¬passive → s.queuedSlot p = none → s.freeSlot = none →
        exec c s = .next (s.accepted.answer 0x08 tag .queueFull []))

/-- R84: a merge takes the larger kind, the higher class and averaging, force and HOST origin if either has them, adds
the host's tag at the end, and keeps the slot's port, phase, sequence number and age. R80: the grant order holds exactly
the QUEUED slots, each once, and no slot in it stands behind one that is of a lower class, or of its class and younger. -/
def Obligations.MergesAndGrantOrder : Prop :=
  (∀ (x : Slot) (a : Ask), let y := x.mergeAsk a
    y.tags = x.tags ++ a.tag.toList ∧ y.force = (x.force || a.force)
    ∧ (y.origin = .auto ↔ x.origin = .auto ∧ a.origin = .auto)
    ∧ y.urgency.code = min x.urgency.code a.urgency.code
    ∧ y.averaging.toNat = max x.averaging.toNat a.averaging.toNat
    ∧ (x.kind = .full ∨ a.kind = .full → y.kind = .full)
    ∧ (∀ p q, x.kind = .pair p → a.kind = .pair q → y.kind = if p = q then .pair p else .full)
    ∧ (∀ p, x.kind = .pair p ∧ a.kind = .quick ∨ x.kind = .quick ∧ a.kind = .pair p → y.kind = .pair p)
    ∧ (x.kind = .quick → a.kind = .quick → y.kind = .quick)
    ∧ y.port = x.port ∧ y.phase = x.phase ∧ y.seq = x.seq ∧ y.age = x.age ∧ y.holdTimer = x.holdTimer)
    ∧ ∀ s : State, s.grantOrder.Nodup
    ∧ (∀ i, i ∈ s.grantOrder ↔ ∃ x, s.slot i = some x ∧ x.phase = .queued)
    ∧ s.grantOrder.Pairwise fun i j => ∀ x y, s.slot i = some x → s.slot j = some y →
        x.urgency.code < y.urgency.code ∨ x.urgency.code = y.urgency.code ∧ x.age ≤ y.age

/-- R88: what the walk of a grant scan does with a QUEUED slot, case by case in the order of the table; the walk visits
the QUEUED slots of its start in grant order. -/
def Obligations.GrantScanCases : Prop :=
  (∀ s : State, s.grantScan = s.grantOrder.foldl State.considerSlot s)
    ∧ ∀ (s : State) (i : SlotId) (x : Slot), s.slot i = some x → x.phase = .queued →
      let c := s.port x.port
      let idleSafe := c.power = .none ∨ c.power = .off ∨ c.power = .held
      ((s.assignedSlot x.port).isSome = true → s.considerSlot i = s)
      ∧ (s.assignedSlot x.port = none →
        (idleSafe → ∀ e, s.freeEngine = some e → s.considerSlot i = (s.assign i x e).routeTest i)
        ∧ (c.power = .powered → c.active.depowerAllowed = true →
          (∃ m, s.controllerOf x.port = some m ∧ m.presence = .present) → ∀ e, s.freeEngine = some e →
            s.considerSlot i = (s.assign i x e).requestHold i x.port)
        ∧ (c.power = .powered → c.active.depowerAllowed = false →
          s.considerSlot i = s.completeCore i .passive
            (some (passiveResult c (s.profileOf x.port) x.averaging)) false)
        ∧ (idleSafe ∨ (c.power = .powered ∧ c.active.depowerAllowed = true) → s.freeEngine = none →
            s.considerSlot i = s)
        ∧ (c.power = .powered → c.active.depowerAllowed = true →
          (∀ m, s.controllerOf x.port = some m → m.presence ≠ .present) → s.considerSlot i = s)
        ∧ (c.power = .detecting ∨ c.power = .unknown ∨ c.power = .fault ∨ c.power = .holdPending →
          s.considerSlot i = s))

/-- R89, R76, R105: the engine chosen is the lowest-numbered FREE one that is WARM, else the lowest-numbered FREE one;
the assignment gives it the slot, the snapshot of the port's active profile and L0, and the averaging, stops its idle
timer, and starts the warm-up of a COLD engine while the reference is present. R91, R171: a hold requested for a port
of a mapped controller makes it HOLD_PENDING with hold owned, loads the slot's hold timer with 500 ms, and puts the
port into the controller's HOLD entry and out of its RELEASE entry. -/
def Obligations.EngineAssignmentAndHold : Prop :=
  (∀ (s : State) (e : EngineId), s.freeEngine = some e ↔
      (s.engine e).duty = .free
      ∧ ((s.engine e).warmth = .warm ∨ ∀ f, (s.engine f).duty = .free → (s.engine f).warmth ≠ .warm)
      ∧ ∀ f : EngineId, f < e → (s.engine f).duty = .free →
          (s.engine e).warmth = .warm ∧ (s.engine f).warmth ≠ .warm)
    ∧ (∀ (s : State) (i : SlotId) (x : Slot) (e : EngineId), let t := s.assign i x e
      t.slot i = some { x with phase := .assigned e } ∧ (∀ j, j ≠ i → t.slot j = s.slot j)
      ∧ (∀ f, f ≠ e → t.engine f = s.engine f) ∧ t.ports = s.ports ∧ t.routes = s.routes ∧ t.link = s.link
      ∧ (t.engine e).duty = .assigned ∧ (t.engine e).idle = none
      ∧ (t.engine e).slot = some { port := x.port, seq := x.seq } ∧ (t.engine e).averaging = some x.averaging
      ∧ (t.engine e).snapshot = some
          { index := (s.port x.port).active.profile, profile := s.profiles[(s.port x.port).active.profile]
            launchOffset := (s.port x.port).active.launchOffset }
      ∧ ((s.engine e).warmth = .cold → s.reference.present = true →
          (t.engine e).warmth = .warming ∧ (t.engine e).warmup = some 20)
      ∧ ((s.engine e).warmth ≠ .cold ∨ s.reference.present = false →
          (t.engine e).warmth = (s.engine e).warmth ∧ (t.engine e).warmup = (s.engine e).warmup))
    ∧ ∀ (s : State) (i : SlotId) (p : PortId) (x : Slot) (m : MapEntry), s.slot i = some x → s.controllerOf p = some m →
    p.val - m.first < 12 →
    let t := s.requestHold i p
    t.port p = { s.port p with power := .holdPending, holdOwned := true } ∧ (∀ q, q ≠ p → t.port q = s.port q)
    ∧ t.slot i = some { x with holdTimer := some 500 } ∧ (∀ j, j ≠ i → t.slot j = s.slot j)
    ∧ (∃ y ∈ t.bus.queue, y.address = m.address ∧ y.kind = .hold ∧ y.mask.getLsbD (p.val - m.first) = true)
    ∧ (∀ y ∈ t.bus.queue, y.address = m.address → y.kind = .release → y.mask.getLsbD (p.val - m.first) = false)
    ∧ t.engines = s.engines ∧ t.routes = s.routes ∧ t.link = s.link

/-- R96, R111, R25: the routing of a slot whose engine is WARM and waiting and whose port is NONE, OFF or HELD: the port
enters DIAGNOSE with its return info, ISOLATE is sent, the matrix connects it and the engine settles for 200 us. In any
other case nothing happens. That the port keeps every field that R25 does not name, the candidate rate, the verify
accumulator and the low streak among them, is the model's reading (DEDUCED, log entry 12). -/
def Obligations.RoutingTest : Prop :=
  ∀ (s : State) (i : SlotId) (x : Slot) (e : EngineId), s.slot i = some x → x.phase = .assigned e →
    let c := s.port x.port
    let idleSafe := c.power = .none ∨ c.power = .off ∨ c.power = .held
    ((s.engine e).warmth = .warm → (s.engine e).duty = .assigned → idleSafe → c.state ≠ .diagnose →
      s.routeTest i = (((s.changeState x.port { c with
          state := .diagnose, cause := .diagnose, current := none, attempt := none, glitch := none, recheck := none
          awaiting := false
          returnInfo := some { admin := c.admin, holddown := c.holddown.getD 0, state := c.state, cause := c.cause } }
        ).sendLane x.port .isolate).setRoute x.port (.engine e)).setEngine e { s.engine e with
          duty := .routing, pulsePair := none, accumulator := PerPair.all Trace.zero, clip := PerPair.all false
          launched := 0, stages := [], step := some 200 })
    ∧ ((s.engine e).warmth ≠ .warm ∨ (s.engine e).duty ≠ .assigned ∨ ¬idleSafe → s.routeTest i = s)

/-! ### Completion -/

/-- R98: what the steps of a completion leave of the slot, its engine, its route and its hold, for a slot that is
QUEUED, waiting, routed or analysing. Other slots, other engines and other ports are as they were. The hold (step 3, with
R171): where an ASSIGNED slot's port has hold owned, the RELEASE is folded into the queue, and a HOLD_PENDING or HELD
port becomes UNKNOWN, for which a PRESENT controller is polled; a slot completed from QUEUED, and a HELD port without
hold owned, leave all of it as it was (the model's reading, log entries 14 and 15). R100: where the class is enabled, one
DIAG_DONE with these contents waits or is being sent; where it is masked the slot is released at once. R99 (step 5): the
port of a routed or analysing slot leaves DIAGNOSE by exitDiagnose (ExitFromDiagnose), with the verdict and length of the
result for COMPLETE alone; a port in the exhausted wait with no other slot in QUEUED or ASSIGNED enters FAULTED(NO_RATE)
(R12); any other keeps its context but for the hold. Ports, lanes and notices are those of that move, and then the
DIAG_DONE. Step 7, R87: a completion outside a scan is these steps and then a grant scan. -/
def Obligations.CompletionSteps : Prop :=
  (∀ (s : State) (i : SlotId) (outcome : DiagOutcome) (res : Option Result) (refLoss : Bool),
    s.complete i outcome res refLoss = (s.completeCore i outcome res refLoss).grantScan)
    ∧ ∀ (s : State) (i : SlotId) (x : Slot) (outcome : DiagOutcome) (res : Option Result) (refLoss : Bool),
    s.slot i = some x → x.phase ≠ .complete →
    let t := s.completeCore i outcome res refLoss
    let c := s.port x.port
    let released : Bus := match s.controllerOf x.port with
      | some m => s.bus.request m.address .release (maskOf (x.port.val - m.first))
      | none => s.bus
    let held : PortCtx := match x.phase with
      | .assigned _ => { c with
          holdOwned := false
          power := if c.holdOwned = true ∧ (c.power = .holdPending ∨ c.power = .held) then .unknown else c.power }
      | _ => c
    let u := s.setPort x.port held
    let routed := ∃ e, x.phase = .assigned e
      ∧ ((s.engine e).duty = .routing ∨ (s.engine e).duty = .capturing ∨ (s.engine e).duty = .analysing)
    let lastOfWait := c.state = .negotiate ∧ c.awaiting = true
      ∧ ∀ j y, j ≠ i → s.slot j = some y → y.port = x.port → y.phase = .complete
    let done (rc : Option StoreReceipt) : DiagDone := {
      port := x.port, outcome := outcome, seq := x.seq, kind := if outcome = .passive then .passive else x.kind
      urgency := x.urgency, averaging := x.averaging, origin := x.origin
      engine := match x.phase with | .assigned e => some e | _ => none
      tags := x.tags, receipt := rc, seconds := s.seconds }
    let movedAs (v : State) : Prop := t.ports = v.ports ∧ t.lanes = v.lanes
      ∧ (s.link.mask.diagDone = false → t.link = v.link)
      ∧ (s.link.mask.diagDone = true → ∃ y, t.slot i = some y
          ∧ t.link = (v.queueNotice (.diagDone i (done y.receipt))).link)
    (routed → movedAs (u.exitDiagnose x.port (if outcome = .complete then res.map (·.verdict) else none)
      (if outcome = .complete then res.bind (·.length) else none)))
    ∧ (¬routed → lastOfWait → movedAs (u.becomesFaulted x.port .noRate))
    ∧ (¬routed → ¬lastOfWait → movedAs u)
    ∧ (s.link.mask.diagDone = false → t.slot i = none)
    ∧ (s.link.mask.diagDone = true → ∃ y, t.slot i = some y ∧ y.phase = .complete ∧ y.outcome = some outcome
        ∧ y.holdTimer = none ∧ y.port = x.port ∧ y.seq = x.seq ∧ y.tags = x.tags ∧ y.receipt.isSome = res.isSome
        ∧ (Notice.diagDone i (done y.receipt) ∈ t.link.notices
          ∨ t.link.transmitter = .notice (.diagDone i (done y.receipt))))
    ∧ (∀ j, j ≠ i → t.slot j = s.slot j) ∧ (∀ q, q ≠ x.port → t.port q = s.port q)
    ∧ (x.phase = .queued → t.engines = s.engines ∧ t.routes = s.routes ∧ t.bus = s.bus
        ∧ (t.port x.port).holdOwned = c.holdOwned ∧ (t.port x.port).power = c.power)
    ∧ (∀ e, x.phase = .assigned e →
        (∀ f, f ≠ e → t.engine f = s.engine f) ∧ (t.port x.port).holdOwned = false
        ∧ (c.holdOwned = false → t.bus = s.bus ∧ (t.port x.port).power = c.power)
        ∧ (c.holdOwned = true →
          (c.power ≠ .holdPending → c.power ≠ .held → t.bus = released ∧ (t.port x.port).power = c.power)
          ∧ (c.power = .holdPending ∨ c.power = .held → (t.port x.port).power = .unknown
            ∧ t.bus = match s.controllerOf x.port with
              | some m => if m.presence = Presence.present then released.requestPoll m.address else released
              | none => released))
        ∧ (t.engine e).slot = none ∧ (t.engine e).snapshot = none ∧ (t.engine e).averaging = none
        ∧ (t.engine e).warmth = (s.engine e).warmth
        ∧ ((s.engine e).duty = .assigned ∨ (s.engine e).duty = .analysing → (t.engine e).duty = .free
            ∧ t.routes = s.routes
            ∧ ((s.engine e).warmth = .warm → (t.engine e).idle = some 2000))
        ∧ ((s.engine e).duty = .routing ∨ (s.engine e).duty = .capturing →
            t.route x.port = .transceiver ∧ (t.engine e).stages = [] ∧ (t.engine e).repetition = none
            ∧ (t.engine e).pulsePair = none
            ∧ (refLoss = false → (t.engine e).duty = .recovering ∧ (t.engine e).step = some 50)
            ∧ (refLoss = true → (t.engine e).duty = .free ∧ (t.engine e).step = none)))

/-- R97, R119: a completion without a result leaves the Cable Record Table and the Trace Store as they were. R153, R154,
R158: one with a result takes the next record number, writes the fresh traces of a FULL or PAIR result, stores the record
for the slot's port and for no other, and gives the slot its receipt, which DIAG_DONE carries. -/
def Obligations.CompletionAndTheRecordStore : Prop :=
  ∀ (s : State) (i : SlotId) (x : Slot) (outcome : DiagOutcome) (refLoss : Bool), s.slot i = some x →
    (s.completeCore i outcome none refLoss).store = s.store
    ∧ ∀ r : Result, let t := s.completeCore i outcome (some r) refLoss
      let n := if s.store.counter < 4294967295 then s.store.counter + 1 else 1
      let counted : RecordStore := { s.store with counter := n }
      let written : RecordStore × Bool := match r.kind with
        | .quick => (counted, false)
        | .passive => (counted, false)
        | _ => counted.write { port := x.port, seq := n, kind := r.kind, traces := r.traces, held := false, hold := none
                               stale := false }
      t.store = { written.1 with records := written.1.records.set x.port (some {
        seq := n, stamp := s.seconds, kind := r.kind, profile := r.profile, averaging := r.averaging
        lowLaunch := r.lowLaunch, traceDropped := written.2, verdict := r.verdict, length := r.length
        pairs := r.pairs }) }
      ∧ t.store.counter = n
      ∧ (∃ rec, t.record x.port = some rec ∧ rec.seq = n ∧ rec.traceDropped = written.2)
      ∧ (∀ p, p ≠ x.port → t.record p = s.record p)
      ∧ (r.kind = .quick ∨ r.kind = .passive → t.store.traces = s.store.traces ∧ t.store.order = s.store.order)
      ∧ (s.link.mask.diagDone = true → ∃ y, t.slot i = some y
          ∧ y.receipt = some { seq := n, verdict := r.verdict, traceDropped := written.2 })

/-- R159, R160, R158: where a trace set is written, which slot is marked stale, which slot is evicted where none is free
(the earliest in the order of writing that is neither held nor stale), what becomes of the order of writing, and when the
set is dropped. Held traces survive. -/
def Obligations.TraceWriteChoosesItsSlot : Prop :=
  ∀ (st : RecordStore) (t : TraceSet), st.law → t.held = false → t.hold = none → t.stale = false →
    let w := st.write t
    let put (traces : Vector (Option TraceSet) 8) (k : TraceId) : Prop :=
      w.1.traces = traces.set k (some t) ∧ w.1.order = st.order.filter (· ≠ k) ++ [k] ∧ w.2 = false
    let marked (j : TraceId) (old : TraceSet) : Vector (Option TraceSet) 8 :=
      st.traces.set j (some { old with stale := true })
    w.1.law ∧ w.1.records = st.records ∧ w.1.counter = st.counter
    ∧ (∀ j old, st.freshOf t.port = some j → st.traces[j] = some old → old.held = false → put st.traces j)
    ∧ (∀ k, st.freshOf t.port = none → st.freeTrace = some k → put st.traces k)
    ∧ (∀ j old k, st.freshOf t.port = some j → st.traces[j] = some old → old.held = true → st.freeTrace = some k →
        put (marked j old) k)
    ∧ (∀ before k after u, st.freeTrace = none → st.order = before ++ k :: after → st.traces[k] = some u →
        u.held = false → u.stale = false → (∀ m ∈ before, ∀ v, st.traces[m] = some v → v.held = true) →
        (st.freshOf t.port = none → put st.traces k)
        ∧ ∀ j old, st.freshOf t.port = some j → st.traces[j] = some old → old.held = true → put (marked j old) k)
    ∧ (w.2 = true ↔ st.freeTrace = none ∧ (∀ (k : TraceId) u, st.traces[k] = some u → u.held = true))
    ∧ (w.2 = true → w.1.order = st.order
        ∧ (st.freshOf t.port = none → w.1.traces = st.traces)
        ∧ ∀ j old, st.freshOf t.port = some j → st.traces[j] = some old → w.1.traces = marked j old)
    ∧ ∀ (k : TraceId) u, st.traces[k] = some u → u.held = true → ∃ v, w.1.traces[k] = some v ∧ v.traces = u.traces ∧ v.seq = u.seq

/-- R102: DIAG_CANCEL. The QUEUED slot is cancelled first, then the ASSIGNED one the port had (log entry 16), which is
left alone while its engine analyses; the reply carries both results. The request is handled at once as its row is taken
(log entry 21). -/
def Obligations.DiagCancel : Prop :=
  ∀ (s : State) (tag port : Byte), s.handlerFree →
    (48 ≤ port.toNat → exec (.diagCancel tag port) s = .next (s.accepted.answer 0x09 tag .badField []))
    ∧ ∀ p : PortId, port.toNat = p.val →
      (s.queuedSlot p = none → s.assignedSlot p = none →
        exec (.diagCancel tag port) s = .next (s.accepted.answer 0x09 tag .notFound []))
      ∧ (∀ i, s.queuedSlot p = some i → s.assignedSlot p = none →
        exec (.diagCancel tag port) s = .next
          ((s.accepted.complete i .cancelled none false).answer 0x09 tag .ok [port, 1, 0]))
      ∧ (∀ i x e, s.queuedSlot p = none → s.assignedSlot p = some i → s.slot i = some x → x.phase = .assigned e →
        ((s.engine e).duty ≠ .analysing → exec (.diagCancel tag port) s = .next
          ((s.accepted.complete i .cancelled none false).answer 0x09 tag .ok [port, 0, 1]))
        ∧ ((s.engine e).duty = .analysing → exec (.diagCancel tag port) s = .next
          (s.accepted.answer 0x09 tag .notCancelled [port, 0, 2])))
      ∧ ∀ i j, s.queuedSlot p = some i → s.assignedSlot p = some j →
        let t := s.accepted.complete i .cancelled none false
        ∀ y e, t.slot j = some y → y.phase = .assigned e →
          ((t.engine e).duty ≠ .analysing → exec (.diagCancel tag port) s = .next
            ((t.complete j .cancelled none false).answer 0x09 tag .ok [port, 1, 1]))
          ∧ ((t.engine e).duty = .analysing → exec (.diagCancel tag port) s = .next
            (t.answer 0x09 tag .ok [port, 1, 2]))

/-! ### Trace pages -/

/-- R161 to R163, R165: TRACE_PAGE reads the port's held slot, else its non-stale one; page 0 holds it for 1,000 ms,
page 79 ends a hold, and a hold's end, there or at its timer, frees a stale slot. The page is checked first. An OK reply
shows the hold after the handling, a NOT_STORED one with data the slot as found (its hold timer: log entry 32); a hold
timer's expiry comes after the time it still had to run (log entry 3), and one that is stopped has none (log entry 5).
The request is handled at once as its row is taken (log entry 21). -/
def Obligations.TracePagesAndHolds : Prop :=
  (∀ (st : RecordStore) (p : PortId), st.law →
    (∀ (j : TraceId) t, st.traces[j] = some t → t.port = p → t.held = true → st.readable p = some j)
    ∧ (∀ (j : TraceId) t, st.traces[j] = some t → t.port = p → t.stale = false →
        (∀ (k : TraceId) u, st.traces[k] = some u → u.port = p → u.held = false) → st.readable p = some j)
    ∧ ((∀ (k : TraceId) u, st.traces[k] = some u → u.port ≠ p) → st.readable p = none))
    ∧ (∀ (s : State) (tag port page : Byte), s.handlerFree →
    (48 ≤ port.toNat ∨ 80 ≤ page.toNat →
      exec (.tracePage tag port page) s = .next (s.accepted.answer 0x0C tag .badField []))
    ∧ ∀ p : PortId, port.toNat = p.val → page.toNat < 80 →
      (s.store.readable p = none →
        exec (.tracePage tag port page) s = .next (s.accepted.answer 0x0C tag .notStored []))
      ∧ ∀ j t, s.store.readable p = some j → s.traceSlot j = some t →
        let ended : RecordStore :=
          if t.stale then { s.store with traces := s.store.traces.set j none, order := s.store.order.filter (· ≠ j) }
          else { s.store with traces := s.store.traces.set j (some { t with held := false, hold := none }) }
        let store := if page = 0 then
            { s.store with traces := s.store.traces.set j (some { t with held := true, hold := some 1000 }) }
          else if page = 79 ∧ t.held = true then ended else s.store
        let hold := if page = 0 then some 1000 else if page = 79 ∧ t.held = true then none else t.hold
        exec (.tracePage tag port page) s = .next (match t.traces.get (pairOfPage page.toNat) with
          | some w => { s.accepted with store := store }.answer 0x0C tag .ok
              (tracePageHead p page.toNat t hold ++ pageSamples page.toNat w)
          | none => { s.accepted with store := store }.answer 0x0C tag .notStored (tracePageHead p page.toNat t t.hold)))
    ∧ (∀ (st : Status) (p : PortId) (page : Nat) (t : TraceSet) (hold : Timer) (tail : List Byte), page < 80 →
      let l := byteOf st.code :: (tracePageHead p page t hold ++ tail)
      l.length = 16 + tail.length ∧ holdsAt l 0 [byteOf st.code, byteOf p.val, byteOf page, byteOf (page / 20)] ∧ holdsAt l 4 (be16 (page % 20 * 64))
      ∧ holdsAt l 6 (be32 t.seq) ∧ holdsAt l 10 [byteOf t.kind.code, optByte (t.kind.pair?.map Pair.code)]
      ∧ (∃ b : Byte, holdsAt l 12 [b] ∧ b.toNat < 16 ∧ ∀ x : Pair, b.getLsbD x.code = (t.traces.get x).isSome)
      ∧ holdsAt l 13 [byteOf ((if t.stale then 1 else 0) + (if hold.isSome then 2 else 0))]
      ∧ holdsAt l 14 (opt16 hold) ∧ (pairOfPage page).code = page / 20
      ∧ ∀ w : Trace, tail = pageSamples page w → tail.length = 128
        ∧ ∀ (k : Nat) (i : Fin 1280), k < 64 → i.val = page % 20 * 64 + k → holdsAt l (16 + 2 * k) (signed16 w[i]))
    ∧ (∀ (s : State) (j : TraceId) (t : TraceSet) (n : Nat), s.traceSlot j = some t → t.hold = some n →
      let u := s.runOutMs n
      exec (.traceHoldTimerExpiry j) s = .next { u with store :=
        if t.stale then { u.store with traces := u.store.traces.set j none, order := u.store.order.filter (· ≠ j) }
        else { u.store with traces := u.store.traces.set j (some { t with held := false, hold := none }) } })
    ∧ ∀ (s : State) (j : TraceId), (∀ t, s.traceSlot j = some t → t.hold = none) →
      exec (.traceHoldTimerExpiry j) s = .next s

/-! ### Lanes -/

/-- R206, R35: the lane words of the seven report kinds and ALIVE, decoded and clamped (the byte order of LOSS_EST is
deduced from that of the margins, log entry 38), and the words discarded on arrival. R206, R34: the words of the five
commands, and what the sending of one records on an UP lane (log entry 7); on a DOWN lane it is lost. -/
def Obligations.LaneWordsDecode : Prop :=
  (∀ (s : State) (p : PortId) (c : LaneCommand), let l := laneOf p
    8 * l.val + (localOf p).val = p.val
    ∧ ((s.lane l).up = true → s.sendLane p c =
        s.setLane l { s.lane l with sent := (s.lane l).sent ++ [c.word (localOf p)] })
    ∧ ((s.lane l).up = false → s.sendLane p c = s))
    ∧ ∀ k : Fin 8,
    (∀ c : LaneCommand, c.word k = match c with
      | .train r => [byteOf (16 + k.val), byteOf r.code]
      | .renegotiate => [byteOf (32 + k.val)]
      | .halt => [byteOf (48 + k.val)]
      | .reconnect => [byteOf (64 + k.val)]
      | .isolate => [byteOf (80 + k.val)])
    ∧ (∀ e : Byte, laneWordOfBytes [byteOf (16 + k.val), e] =
      if e = 0 then some (.report (.energy k false)) else if e = 1 then some (.report (.energy k true)) else none)
    ∧ (∀ b : Byte, ∃ rates, laneWordOfBytes [byteOf (32 + k.val), b] = some (.report (.partner k rates))
        ∧ rates.toByte.toNat = b.toNat % 32)
    ∧ (∀ r : Byte, (∀ x : Rate, r.toNat = x.code →
          laneWordOfBytes [byteOf (48 + k.val), r] = some (.report (.lock k x)))
        ∧ (5 ≤ r.toNat → laneWordOfBytes [byteOf (48 + k.val), r] = none))
    ∧ laneWordOfBytes [byteOf (64 + k.val)] = some (.report (.loss k))
    ∧ laneWordOfBytes [byteOf (80 + k.val)] = some (.report (.restore k))
    ∧ (∀ a b c d : Int, -32768 ≤ a ∧ a ≤ 32767 → -32768 ≤ b ∧ b ≤ 32767 → -32768 ≤ c ∧ c ≤ 32767 →
        -32768 ≤ d ∧ d ≤ 32767 →
        laneWordOfBytes (byteOf (96 + k.val) :: signed16 a ++ signed16 b ++ signed16 c ++ signed16 d) =
          some (.report (.margin k { a := max (-100) (min 300 a), b := max (-100) (min 300 b)
                                     c := max (-100) (min 300 c), d := max (-100) (min 300 d) })))
    ∧ (∀ n : Nat, n ≤ 65535 →
        laneWordOfBytes (byteOf (112 + k.val) :: be16 n) = some (.report (.lossEst k (min 6000 n))))
    ∧ (∀ n : Nat, n < 16 → ∀ b : Byte, laneWordOfBytes [byteOf (128 + n), b] = some (.alive b))
    ∧ (∀ (h : Byte) (body : List Byte), 8 ≤ h.toNat % 16 → h.toNat / 16 ≠ 8 → laneWordOfBytes (h :: body) = none)
    ∧ (∀ (h : Byte) (body : List Byte), h.toNat / 16 = 0 ∨ 9 ≤ h.toNat / 16 → laneWordOfBytes (h :: body) = none)
    ∧ ∀ (h : Byte) (body : List Byte) (n : Nat),
        (h.toNat / 16, n) ∈ [(1, 1), (2, 1), (3, 1), (4, 0), (5, 0), (6, 8), (7, 2), (8, 1)] → body.length ≠ n →
        laneWordOfBytes (h :: body) = none

/-- R35 to R38: a report that arrives joins the tail of an UP lane's FIFO, which withdraws ready at 16 and discards
beyond; a MARGIN replaces the port's unconsumed MARGIN in its place, full or not; a DOWN lane discards it; an ALIVE goes
to the watch. -/
def Obligations.LaneReportArrival : Prop :=
  ∀ (s : State) (l : LaneId) (word : List Byte),
    (laneWordOfBytes word = none → exec (.laneReportArrival l word) s = .next s)
    ∧ (∀ b, laneWordOfBytes word = some (.alive b) → exec (.laneReportArrival l word) s = exec (.alive l b) s)
    ∧ ∀ r, laneWordOfBytes word = some (.report r) →
      ((s.lane l).up = false → exec (.laneReportArrival l word) s = .next s)
      ∧ ((s.lane l).up = true →
        (∀ m old before after, r = .margin r.localPort m →
          (s.lane l).fifo = before ++ .margin r.localPort old :: after →
          (∀ x ∈ before, x.isMarginOf r.localPort = false) →
          exec (.laneReportArrival l word) s =
            .next (s.setLane l { s.lane l with fifo := before ++ r :: after }))
        ∧ ((∀ k m, r ≠ .margin k m) ∨ (∀ x ∈ (s.lane l).fifo, x.isMarginOf r.localPort = false) →
          ((s.lane l).fifo.length < 15 → exec (.laneReportArrival l word) s =
            .next (s.setLane l { s.lane l with fifo := (s.lane l).fifo ++ [r] }))
          ∧ ((s.lane l).fifo.length = 15 → exec (.laneReportArrival l word) s =
            .next (s.setLane l { s.lane l with fifo := (s.lane l).fifo ++ [r], ready := false }))
          ∧ (16 ≤ (s.lane l).fifo.length → exec (.laneReportArrival l word) s = .next s)))

/-- R44 to R47, R23: the ALIVE watch. An ALIVE reloads it or brings a DOWN lane UP, resending each port the command of
its state; its expiry takes the lane DOWN, which empties the FIFO, sends the ports that were being brought up to LISTEN
with cause LANE_DOWN and an empty verify accumulator (log entry 12), and sets every other port's energy absent; each
port that changes its state queues a PORT_CHANGE (R32). RESTARTED on an UP lane does both. The expiry comes after the
time the watch still had to run, and a stopped one has none (log entries 3 and 5); the order of the eight ports is the
model's (log entry 29). -/
def Obligations.LaneAliveWatch : Prop :=
  ∀ (s : State) (l : LaneId),
    let resend (c : PortCtx) : Option LaneCommand := match c.state with
      | .off => some .halt
      | .listen => some .reconnect
      | .negotiate => if c.awaiting then some .halt else none
      | .holddown => some .halt
      | .faulted => some .halt
      | .diagnose => some .isolate
      | _ => none
    let resent (u : State) : List (List Byte) :=
      (List.finRange 8).filterMap fun k => (resend (u.port (portAt l k))).map fun c => c.word k
    let wentDown (u t : State) : Prop :=
      (∀ p, laneOf p ≠ l → t.port p = u.port p)
      ∧ (∀ p, laneOf p = l → (u.port p).inBringUp → t.port p = ((u.port p).listening .laneDown).latch)
      ∧ (∀ p, laneOf p = l → ¬(u.port p).inBringUp → t.port p = { u.port p with energy := false })
      ∧ (∀ m, m ≠ l → t.lane m = u.lane m)
      ∧ t.slots = u.slots ∧ t.engines = u.engines ∧ t.routes = u.routes ∧ t.bus = u.bus ∧ t.store = u.store
      ∧ ∃ ps : List PortId, (∀ p, p ∈ ps ↔ laneOf p = l ∧ (u.port p).inBringUp) ∧ ps.Pairwise (· < ·)
        ∧ t.link = (ps.foldl (fun v p => v.changeState p ((v.port p).listening .laneDown).latch) u).link
    (∀ b : Byte, b ≠ 1 → b ≠ 2 → exec (.alive l b) s = .next s)
    ∧ ((s.lane l).up = true → exec (.alive l 1) s = .next (s.setLane l { s.lane l with watch := some 300 }))
    ∧ (∀ b : Byte, b = 1 ∨ b = 2 → (s.lane l).up = false → exec (.alive l b) s = .next (s.setLane l
        { s.lane l with up := true, watch := some 300, sent := (s.lane l).sent ++ resent s }))
    ∧ ((s.lane l).up = true → ∃ t, exec (.alive l 2) s = .next t ∧ wentDown s t
        ∧ t.lane l = { up := true, watch := some 300, fifo := [], ready := true, sent := (s.lane l).sent ++ resent t })
    ∧ (∀ n, (s.lane l).watch = some n → ∃ t, exec (.aliveWatchExpiry l) s = .next t ∧ wentDown (s.runOutMs n) t
        ∧ t.lane l = { up := false, watch := none, fifo := [], ready := true, sent := (s.lane l).sent })
    ∧ ((s.lane l).watch = none → exec (.aliveWatchExpiry l) s = .next s)

/-! ### Reports taken for a port -/

/-- R7, R8, R14: an ENERGY report taken. An entry into LISTEN from VERIFY or UP empties the verify accumulator (log entry
12, deduced from section 4.3). -/
def Obligations.EnergyReportTaken : Prop :=
  ∀ (s : State) (l : LaneId) (k : Fin 8) (e : Bool) (rest : List Report), (s.lane l).fifo = .energy k e :: rest →
    let u := s.popped l rest
    let p := portAt l k
    let c := s.port p
    let forgotten := if c.state = .up then { c with
        fails := PerRate.all 0, barred := PerRate.all false, negFails := 0, exhausted := false } else c
    (c.state = .diagnose → exec (.energy l) s = .next u)
    ∧ (c.inBringUp → e = false → exec (.energy l) s = .next (u.changeState p
        ((({ forgotten with insertionLoss := none, length := none, lastMargins := none : PortCtx }).listening
          .unplugged).latch)))
    ∧ (c.state = .listen → e = true → exec (.energy l) s = .next (u.changeState p
        { (c.latch).negotiating c.cause with energy := true }))
    ∧ (c.state ≠ .diagnose → ¬(c.inBringUp ∧ e = false) → ¬(c.state = .listen ∧ e = true) →
        exec (.energy l) s = .next (u.setPort p { c with energy := e }))

/-- R9 to R11: a PARTNER report taken in NEGOTIATE chooses the highest rate that passes the five tests and trains it;
with none the port is exhausted; elsewhere the report is discarded. What becomes of an exhausted port rests on log entry
12 (a FAULTED port's verify accumulator is empty) and log entry 22 (a slot completed within its own admission). -/
def Obligations.PartnerReportTaken : Prop :=
  (∀ (c : PortCtx) (profile : Profile) (rates : RateSet),
      let passes (r : Rate) : Prop :=
        rates.get r = true ∧ c.active.allowed.get r = true ∧ c.active.ceiling.code ≤ r.code ∧ c.barred.get r = false
        ∧ profile.reach.get r ≠ 0 ∧ (∀ len, c.length = some len → len.cm ≤ profile.reach.get r * 100)
      (∀ r, c.choose profile rates = some r ↔ passes r ∧ ∀ q, q.code < r.code → ¬passes q)
      ∧ (c.choose profile rates = none ↔ ∀ r, ¬passes r))
    ∧ ∀ (s : State) (l : LaneId) (k : Fin 8) (rates : RateSet) (rest : List Report),
      (s.lane l).fifo = .partner k rates :: rest →
      let u := s.popped l rest
      let p := portAt l k
      let c := s.port p
      (c.state = .negotiate → c.awaiting = false →
        (∀ r, c.choose (s.profileOf p) rates = some r → exec (.partner l) s = .next
          ((u.changeState p { c with state := .train, partner := some rates, candidate := some r, current := some r
                                     attempt := some c.active.trainTimeout }).sendLane p (.train r)))
        ∧ (c.choose (s.profileOf p) rates = none → ∃ t, exec (.partner l) s = .next t ∧
          (u.setPort p { c with partner := some rates, exhausted := true, attempt := none }).exhaustsTo p t))
      ∧ (c.state ≠ .negotiate ∨ c.awaiting = true → exec (.partner l) s = .next u)

/-- R15, R16, R18, R41, R50, R51: LOCK, LOSS and RESTORE reports taken. -/
def Obligations.LockLossRestoreTaken : Prop :=
  ∀ (s : State) (l : LaneId) (k : Fin 8) (rest : List Report),
    let u := s.popped l rest
    let p := portAt l k
    let c := s.port p
    (∀ r, (s.lane l).fifo = .lock k r :: rest →
      (c.state = .train → c.candidate = some r → exec (.lock l) s = .next (u.changeState p { c with
          state := .verify, negFails := 0, samples := 0, sum := 0
          attempt := some (c.active.trainTimeout + 20 * c.active.k) }))
      ∧ (∀ r', c.state = .train → c.candidate = some r' → r' ≠ r → exec (.lock l) s = .next (u.failsAt p r' .loss))
      ∧ (c.state ≠ .train → exec (.lock l) s = .next u))
    ∧ ((s.lane l).fifo = .loss k :: rest →
      (∀ r, c.state = .train ∧ c.candidate = some r ∨ c.state = .verify ∧ c.current = some r →
        exec (.loss l) s = .next (u.failsAt p r .loss))
      ∧ (c.state = .up → c.glitch = none →
        exec (.loss l) s = .next (u.setPort p { c with glitch := some c.active.glitchMs }))
      ∧ (c.state = .up ∧ c.glitch ≠ none ∨ c.state ≠ .train ∧ c.state ≠ .verify ∧ c.state ≠ .up →
        exec (.loss l) s = .next u))
    ∧ ((s.lane l).fifo = .restore k :: rest →
      (c.state = .up → c.glitch ≠ none → exec (.restore l) s = .next
        (u.setPort p { c with glitch := none, glitchCount := min (c.glitchCount + 1) 65535 }))
      ∧ (c.state ≠ .up ∨ c.glitch = none → exec (.restore l) s = .next u))

/-- R17, R20, R42, R43: a MARGIN taken is a verify sample in VERIFY, decided at the K-th by the floored average against
the pass threshold, and a streak sample in UP, which fails the rate at the eighth low one; a LOSS_EST sets the
insertion loss and the length. -/
def Obligations.MarginAndLossEstTaken : Prop :=
  ([Rate.r10G, .r5G, .r2G5, .r1G, .r100M].map Rate.pass = [30, 25, 20, 15, 10])
    ∧ ∀ (s : State) (l : LaneId) (k : Fin 8) (rest : List Report),
      let u := s.popped l rest
      let p := portAt l k
      let c := s.port p
      (∀ (m : PerPair Int) (r : Rate), (s.lane l).fifo = .margin k m :: rest → c.current = some r →
        let z := min (min m.a m.b) (min m.c m.d)
        let last := { c with lastMargins := some { margins := m, rate := r } : PortCtx }
        let sampled := { last with samples := c.samples + 1, sum := c.sum + z }
        (c.state = .verify → c.samples + 1 < c.active.k → exec (.margin l) s = .next (u.setPort p sampled))
        ∧ (c.state = .verify → c.active.k ≤ c.samples + 1 →
          (r.pass ≤ (c.sum + z).fdiv c.active.k → exec (.margin l) s = .next (u.changeState p
            { sampled with state := .up, attempt := none, lowStreak := 0, glitch := none }))
          ∧ ((c.sum + z).fdiv c.active.k < r.pass →
            exec (.margin l) s = .next ((u.setPort p sampled).failsAt p r .margin)))
        ∧ (c.state = .up → r.pass - 10 ≤ z →
          exec (.margin l) s = .next (u.setPort p { last with lowStreak := 0 }))
        ∧ (c.state = .up → z < r.pass - 10 →
          (c.lowStreak < 7 → exec (.margin l) s = .next (u.setPort p { last with lowStreak := c.lowStreak + 1 }))
          ∧ (7 ≤ c.lowStreak → exec (.margin l) s = .next
            ((u.setPort p { last with lowStreak := c.lowStreak + 1 }).failsAt p r .margin))))
      ∧ (∀ m, (s.lane l).fifo = .margin k m :: rest → c.state ≠ .verify → c.state ≠ .up →
        exec (.margin l) s = .next u)
      ∧ ∀ il, (s.lane l).fifo = .lossEst k il :: rest →
        (c.state = .verify ∨ c.state = .up → exec (.lossEst l) s = .next (u.setPort p { c with
            insertionLoss := some il
            length := some { cm := min 20000 (il * 10000 / s.profiles[c.active.profile].loss)
                             source := .insertionLoss } }))
        ∧ (c.state ≠ .verify → c.state ≠ .up → exec (.lossEst l) s = .next u)

/-! ### Port timers -/

/-- R2, R13, R15, R18: the attempt timer's expiry. A negotiation restarts, or at the third timeout the port is exhausted;
TRAIN and VERIFY fail at the rate with cause TIMEOUT. R52, R54 to R61: the expiries of the glitch, window, hold-down and
recheck timers. Each comes after the time its timer still had to run (log entry 3), and a stopped timer has none (log
entry 5). From HOLDDOWN the port enters LISTEN with an empty verify accumulator (log entry 12); for the exhausted port
see log entry 22. -/
def Obligations.PortTimerExpiries : Prop :=
  ∀ (s : State) (p : PortId),
    ((s.port p).attempt = none → exec (.attemptTimerExpiry p) s = .next s)
    ∧ ((s.port p).glitch = none → exec (.glitchTimerExpiry p) s = .next s)
    ∧ ((s.port p).window = none → exec (.windowTimerExpiry p) s = .next s)
    ∧ ((s.port p).holddown = none → exec (.holddownTimerExpiry p) s = .next s)
    ∧ ((s.port p).recheck = none → exec (.recheckTimerExpiry p) s = .next s)
    ∧ ∀ n,
      let u := s.runOutMs n
      let c := u.port p
      ((s.port p).attempt = some n →
        (∀ r, c.state = .train ∧ c.candidate = some r ∨ c.state = .verify ∧ c.current = some r →
          exec (.attemptTimerExpiry p) s = .next (u.failsAt p r .timeout))
        ∧ (c.state = .negotiate → c.negFails < 2 → exec (.attemptTimerExpiry p) s = .next
          ((u.setPort p { c with negFails := c.negFails + 1, cause := .timeout, partner := none
                                 attempt := some 2000 }).sendLane p .renegotiate))
        ∧ (c.state = .negotiate → 2 ≤ c.negFails → ∃ t, exec (.attemptTimerExpiry p) s = .next t ∧
          (u.setPort p { c with negFails := 3, cause := .timeout, exhausted := true, attempt := none }).exhaustsTo p t))
      ∧ ((s.port p).glitch = some n → c.state = .up →
        let held := (u.changeState p { c with
          state := .holddown, cause := .loss, flapCount := 0, window := some (1000 * c.active.windowS)
          current := none, attempt := none, glitch := none
          holddown := some (1000 * c.active.holddownS) }).sendLane p .halt
        (c.flapCount + 1 < c.active.flapLimit → exec (.glitchTimerExpiry p) s = .next
          ((u.changeState p ((({ c with flapCount := c.flapCount + 1 : PortCtx }).latch).negotiating .loss)).sendLane p
            .renegotiate))
        ∧ (c.active.flapLimit ≤ c.flapCount + 1 → exec (.glitchTimerExpiry p) s = .next
          (if c.active.autoDiagnose then (held.offerAuto p .full).1 else held)))
      ∧ ((s.port p).window = some n → exec (.windowTimerExpiry p) s = .next
        (u.setPort p { c with flapCount := 0, window := some (1000 * c.active.windowS) }))
      ∧ ((s.port p).holddown = some n →
        (c.state = .holddown → exec (.holddownTimerExpiry p) s = .next
          ((u.changeState p (c.listening c.cause).latch).sendLane p .reconnect))
        ∧ (c.state = .diagnose → exec (.holddownTimerExpiry p) s = .next (u.setPort p { c with holddown := none })))
      ∧ ((s.port p).recheck = some n → c.state = .faulted → exec (.recheckTimerExpiry p) s = .next
        ((u.setPort p c.rechecking).offerAuto p .quick).1)

/-- R27, R28, R68, R32: the exit from DIAGNOSE. The first row of the table that holds decides, after an UNTERMINATED or
NO_CABLE verdict has cleared the ladder, neg fail count and exhausted and a verdict's length has replaced the estimate.
OFF, LISTEN and FAULTED latch the pending policy, OFF with the clearing of R4, FAULTED with its recheck timer from the
latched policy; HOLDDOWN latches none. Every exit queues PORT_CHANGE and sends the command of the new state. Entries into
LISTEN and FAULTED find the verify accumulator empty (log entry 12). -/
def Obligations.ExitFromDiagnose : Prop :=
  ∀ (s : State) (p : PortId) (i : ReturnInfo) (v : Option Verdict) (len : Option LengthEstimate),
    (s.port p).state = .diagnose → (s.port p).returnInfo = some i → (len ≠ none → v ≠ none) →
    let c := s.port p
    let t := s.exitDiagnose p v len
    let open_ : Bool := v == some .unterminated || v == some .noCable
    let cleared (d : PortCtx) : PortCtx := { d with
      fails := PerRate.all 0, barred := PerRate.all false, negFails := 0, exhausted := false }
    let measured : PortCtx := { c with
      returnInfo := none
      length := match len with
        | some x => some { cm := x.cm, source := .tdrEnd }
        | none => c.length }
    let d := if open_ then cleared measured else measured
    let off : PortCtx := { cleared d with
      admin := .down, state := .off, cause := .none, awaiting := false, lowStreak := 0, flapCount := 0, glitchCount := 0
      samples := 0, sum := 0, partner := none, candidate := none, current := none, attempt := none, glitch := none
      window := none, holddown := none, recheck := none }
    let faulted (cause : Cause) : State := (s.setPort p d).becomesFaulted p cause
    (∀ q, q ≠ p → t.port q = s.port q)
    ∧ (c.admin = .down → t = (s.changeState p off.latch).sendLane p .halt)
    ∧ (c.admin = .up →
      (v = some .fault → t = faulted .cableFault)
      ∧ (v ≠ some .fault → i.state = .faulted → v ≠ none →
        t = (s.changeState p ((cleared d).listening c.cause).latch).sendLane p .reconnect)
      ∧ (i.state = .faulted → v = none → t = faulted i.cause)
      ∧ (v ≠ some .fault → i.state ≠ .faulted →
        (c.exhausted = true → open_ = false → t = faulted .noRate)
        ∧ (c.exhausted = false ∨ open_ = true → 0 < c.holddown.getD 0 →
            t = (s.changeState p { d with state := .holddown }).sendLane p .halt)
        ∧ (c.exhausted = false ∨ open_ = true → c.holddown.getD 0 = 0 →
            t = (s.changeState p (d.listening c.cause).latch).sendLane p .reconnect)))
    ∧ (t.port p).returnInfo = none ∧ (t.port p).length = measured.length
    ∧ ((t.port p).state = .off ∨ (t.port p).state = .listen ∨ (t.port p).state = .faulted →
      (t.port p).active = c.pendingPolicy.getD c.active ∧ (t.port p).pendingPolicy = none)
    ∧ ((t.port p).state = .faulted → (t.port p).recheck =
      if (t.port p).active.recheckS = 0 then none else some (1000 * (t.port p).active.recheckS))

/-! ### Engines -/

/-- R93, R109, R106, R107, R118, R120: the expiries of a slot's hold timer and of an engine's idle, warm-up, analysis and
recovery timers, and the start of the self-baseline, each after the time it still had to run (log entry 3). That the end
of a warm-up empties the stage store, the accumulator and the pulse pair is the model's choice (log entry 40). -/
def Obligations.SchedulerAndEngineTimers : Prop :=
  (∀ (s : State) (i : SlotId) (x : Slot) (e : EngineId) (n : Nat), s.slot i = some x → x.holdTimer = some n →
      x.phase = .assigned e → (s.port x.port).power = .holdPending →
      exec (.slotHoldTimerExpiry i) s = .next ((s.runOutMs n).complete i .powerHoldTimeout none false))
    ∧ ∀ (s : State) (e : EngineId) (n : Nat),
      let c := s.engine e
      let u := s.runOutUs n
      let v := s.runOutMs n
      (c.idle = some n → c.duty = .free → c.warmth = .warm → exec (.idleTimerExpiry e) s = .next (v.setEngine e
          { v.engine e with warmth := .cold, baselines := none, a0 := none, lowLaunch := false, idle := none
                            warmup := none }))
      ∧ (c.step = some n → c.duty = .recovering → exec (.recoveryEnd e) s = .next (u.setEngine e { u.engine e with
          duty := .free, step := none
          idle := if c.warmth = .warm then some 2000 else (u.engine e).idle }).grantScan)
      ∧ (∀ i x j, c.step = some n → c.duty = .analysing → s.slotOfEngine e = some i → s.slot i = some x →
          s.job e = some j → exec (.analysisEnd e) s =
            .next (u.complete i .complete (some (analyse j x.averaging)) false))
      ∧ (c.warmup = some n → c.warmth = .warming → c.pulsePair = none → c.stages = [] →
        let w := s.runOutUs (1000 * n - s.micros - 592)
        exec (.selfBaselineCaptureStart e) s = .next (w.setEngine e { w.engine e with
          pulsePair := some .A, accumulator := PerPair.all Trace.zero, clip := PerPair.all false, launched := 0
          step := some 20, repetition := none }))
      ∧ ∀ a b c' d : Stage, c.warmup = some n → c.warmth = .warming → c.stages = [a, b, c', d] → a.pair = .A →
        b.pair = .B → c'.pair = .C → d.pair = .D →
        let peak (t : Trace) : Nat := ((t.toList.take 64).map Int.natAbs).foldl max 0
        let mean := (peak a.traces.a + peak b.traces.b + peak c'.traces.c + peak d.traces.d) / 4
        let w := v.setEngine e { v.engine e with
          warmth := .warm, warmup := none, a0 := some (max 200 (min 511 mean)), lowLaunch := decide (mean < 200)
          baselines := some { a := a.traces, b := b.traces, c := c'.traces, d := d.traces }
          stages := [], pulsePair := none, step := none, repetition := none, launched := 0
          accumulator := PerPair.all Trace.zero, clip := PerPair.all false
          idle := if c.duty = .free then some 2000 else (v.engine e).idle }
        exec (.warmupTimerExpiry e) s = .next (match w.slotOfEngine e with
          | some i => (w.routeTest i).grantScan
          | none => w.grantScan)

/-- R111 to R117: the settle and the pulser switch end, a launch's window is summed, and at the last launch of a stage
the averaged traces and clip flags go to the stage store; then the next stage begins, or the route returns to the
transceiver and the analyser has the job for 100 us a stage. R106: the stages A to D of the self-baseline of a WARMING
engine have 64 pulses each and keep no clip flags; after the fourth the engine waits for its warm-up timer, its stages
kept and its pulse pair absent (the model's choice, log entry 40). Each end comes
after the time its timer still had to run (log entry 3). -/
def Obligations.CaptureSteps : Prop :=
  let begun (d : Engine) (y : Pair) : Engine := { d with
    pulsePair := some y, accumulator := PerPair.all Trace.zero, clip := PerPair.all false, launched := 0
    step := some 20, repetition := none }
  (∀ (w : Window) (c : Engine) (p : Pair) (i : Fin 1280),
      ((c.accumulate w).accumulator.get p)[i] = (c.accumulator.get p)[i] + ((channelOf w p)[i]).toInt
      ∧ ((c.accumulate w).clip.get p = true ↔ c.clip.get p = true
          ∨ ∃ j : Fin 1280, ((channelOf w p)[j]).toInt = -512 ∨ ((channelOf w p)[j]).toInt = 511))
    ∧ (∀ (n : Nat) (t : Trace) (i : Fin 1280), (averaged n t)[i] = Int.fdiv t[i] n)
    ∧ (∀ (s : State) (e : EngineId) (n : Nat) (y : Pair), (s.engine e).step = some n →
      (s.engine e).pulsePair = some y → (s.engine e).launched = 0 →
      let u := s.runOutUs n
      exec (.pulserSwitchEnd e) s = .next (u.setEngine e { u.engine e with
        step := none, launched := 1, repetition := some 2000 }))
    ∧ (∀ (s : State) (e : EngineId) (n : Nat) (y : Pair) (w : Window), (s.engine e).warmth = .warming →
      (s.engine e).repetition = some n → (s.engine e).pulsePair = some y →
      let c := s.engine e
      let u := s.runOutUs ((n + 999) / 1000)
      let d := (u.engine e).accumulate w
      let ended := { d with
        stages := c.stages ++ [{ pair := y, traces := d.accumulator.map (averaged 64), clip := PerPair.all false }] }
      (c.launched < 64 → exec (.repetitionCompareMatch e w) s = .next
        (u.setEngine e { d with launched := c.launched + 1, repetition := some 2000 }))
      ∧ (64 ≤ c.launched →
        (∀ z rest, [Pair.A, .B, .C, .D].drop (c.stages.length + 1) = z :: rest →
          exec (.repetitionCompareMatch e w) s = .next (u.setEngine e (begun ended z)))
        ∧ ([Pair.A, .B, .C, .D].drop (c.stages.length + 1) = [] →
          exec (.repetitionCompareMatch e w) s = .next (u.setEngine e { ended with
            pulsePair := none, accumulator := PerPair.all Trace.zero, clip := PerPair.all false, launched := 0
            repetition := none }))))
    ∧ ∀ (s : State) (e : EngineId) (i : SlotId) (x : Slot) (n : Nat), s.slotOfEngine e = some i → s.slot i = some x →
      (s.engine e).warmth ≠ .warming →
      let c := s.engine e
      let stages : List Pair := match x.kind with
        | .full => [.A, .B, .C, .D]
        | .quick => [.A, .B, .C, .D]
        | .pair y => [y]
        | .passive => []
      (∀ y rest, c.step = some n → c.duty = .routing → c.stages = [] → stages = y :: rest →
        let u := s.runOutUs n
        exec (.settleEnd e) s = .next (u.setEngine e (begun { u.engine e with duty := .capturing } y)))
      ∧ ∀ (w : Window) (y : Pair) (avg : Averaging), c.repetition = some n → c.pulsePair = some y →
        c.averaging = some avg →
        let pulses := if x.kind = .quick then 1 else avg.toNat
        let u := s.runOutUs ((n + 999) / 1000)
        let d := (u.engine e).accumulate w
        let ended := { d with
          stages := c.stages ++ [{ pair := y, traces := d.accumulator.map (averaged pulses), clip := d.clip }] }
        (c.launched < pulses → exec (.repetitionCompareMatch e w) s = .next
          (u.setEngine e { d with launched := c.launched + 1, repetition := some 2000 }))
        ∧ (pulses ≤ c.launched →
          (∀ z rest, stages.drop (c.stages.length + 1) = z :: rest →
            exec (.repetitionCompareMatch e w) s = .next (u.setEngine e (begun ended z)))
          ∧ (∀ a0 snap b, stages.drop (c.stages.length + 1) = [] → c.a0 = some a0 → c.snapshot = some snap →
            c.baselines = some b → exec (.repetitionCompareMatch e w) s = .next
              ((((u.setRoute x.port .transceiver).setJob e (some
                { kind := x.kind, a0 := a0, lowLaunch := c.lowLaunch, snapshot := snap
                  stages := ended.stages.map fun g =>
                    { pair := g.pair, capture := g.traces, baseline := b.get g.pair, clip := g.clip } })).setEngine e
                { ended with
                  duty := .analysing, pulsePair := none, step := some (100 * ended.stages.length)
                  accumulator := PerPair.all Trace.zero, clip := PerPair.all false, launched := 0
                  repetition := none }))))

/-! ### The analysis -/

/-- The arithmetic of an echo. R132: the detection threshold, its range, and that no weaker echo can be a finding after
the largest gain. R134: the offset, with the rows of its table, and the position. R135: the distance, with its shortest
and longest values. R136: the gain, its range and its values at the ends. R137: the coefficient, rounded half away from
zero and clamped. R138: its kind. R141: the coupling. Last, the worked case of section 7.4. -/
def Obligations.EchoArithmetic : Prop :=
  (∀ a0 floor : Nat, 200 ≤ a0 → a0 ≤ 511 → 50 ≤ floor → floor ≤ 500 →
      threshold a0 floor = max 4 (a0 * floor / 3000) ∧ 4 ≤ threshold a0 floor ∧ threshold a0 floor ≤ 85
      ∧ ∀ (w : Int) (gain hard : Nat), gain ≤ 3000 → kindOf (rhoOf w gain a0) floor hard ≠ none →
        threshold a0 floor ≤ w.natAbs)
    ∧ (threshold 200 50 = 4 ∧ threshold 511 500 = 85 ∧ threshold 400 150 = 20 ∧ threshold 404 150 = 20)
    ∧ (∀ n d : Int, 0 < d → 2 * (roundHalfAway n d * d - n).natAbs ≤ d.natAbs
      ∧ (2 * (roundHalfAway n d * d - n).natAbs = d.natAbs → n.natAbs < (roundHalfAway n d * d).natAbs))
    ∧ (∀ a b c : Int, let den := 2 * (2 * b - a - c)
      (den ≤ 0 → offsetOf a b c = 0)
      ∧ (0 < den → offsetOf a b c = max (-2) (min 2 (roundHalfAway (4 * (c - a)) den)))
      ∧ ∀ i : Nat, 1 ≤ i → (positionOf i a b c : Int) = 4 * i + offsetOf a b c)
    ∧ (offsetOf 180 300 260 = 1 ∧ offsetOf 20 25 22 = 1 ∧ offsetOf 100 156 120 = 0 ∧ offsetOf 40 70 55 = 1
      ∧ offsetOf 120 250 250 = 2 ∧ offsetOf 90 95 10 = -2)
    ∧ (∀ q l0 nvp : Nat, (q ≤ l0 → distanceOf q l0 nvp = 0)
      ∧ (l0 < q → distanceOf q l0 nvp = ((q - l0) * 250 * nvp * 14990 + 500000000) / 1000000000)
      ∧ (∀ q', q ≤ q' → distanceOf q l0 nvp ≤ distanceOf q' l0 nvp))
    ∧ (distanceOf 30 0 500 = 56 ∧ distanceOf 30 0 690 = 78 ∧ distanceOf 30 0 900 = 101
      ∧ distanceOf 5114 0 900 = 17248)
    ∧ (∀ cm atten : Nat, gainOf cm atten = min 3000 (1000 + cm * atten / 100) ∧ 1000 ≤ gainOf cm atten
      ∧ gainOf cm atten ≤ 3000 ∧ gainOf cm 0 = 1000)
    ∧ (gainOf 17248 6 = 2034 ∧ ∀ cm, 10000 ≤ cm → gainOf cm 20 = 3000)
    ∧ (∀ (w : Int) (gain a0 : Nat), 0 < a0 →
      rhoOf w gain a0 = max (-1000) (min 1000 (roundHalfAway (w * gain) a0)) ∧ rhoOf (-w) gain a0 = -rhoOf w gain a0
      ∧ (0 ≤ w → 0 ≤ rhoOf w gain a0))
    ∧ (∀ (rho : Int) (floor hard : Nat), 0 < floor → floor < hard →
      (kindOf rho floor hard = none ↔ rho.natAbs < floor)
      ∧ (kindOf rho floor hard = some .openEnd ↔ (hard : Int) ≤ rho)
      ∧ (kindOf rho floor hard = some .short ↔ rho ≤ -(hard : Int))
      ∧ (kindOf rho floor hard = some .highImpedance ↔ (floor : Int) ≤ rho ∧ rho < hard)
      ∧ (kindOf rho floor hard = some .lowImpedance ↔ -(hard : Int) < rho ∧ rho ≤ -(floor : Int)))
    ∧ (∀ (u : Int) (a0 : Nat), couplingOf u a0 = min 1000 (u.natAbs * 1000 / a0) ∧ couplingOf u a0 ≤ 1000)
    ∧ (searchStart 0 = 8 ∧ searchStart 38 = 18 ∧ searchStart 40 = 18 ∧ searchStart 255 = 72)
    ∧ positionOf 487 180 300 260 = 1949 ∧ distanceOf 1949 38 690 = 4941 ∧ gainOf 4941 6 = 1296
      ∧ rhoOf 300 1296 400 = 972 ∧ kindOf 972 150 600 = some .openEnd ∧ rhoOf 120 1296 400 = 389

/-- The search of one stage. R130, R131, R133, R139, R140: the own findings are exactly the candidates that qualify, each
the first at or after its open index, which is s0 and then 12 past the last finding's index; each has the values of R134
to R138; an OPEN or SHORT ends the search, and so does the end of the window; a QUICK takes those two kinds alone. R141:
the peak of a cross channel and the pair's largest coupling. R142 to R144: which CROSS_SHORTs are made and kept, and the
order of all the findings. -/
def Obligations.EchoSearchAndCrossShorts : Prop :=
  (∀ (v b : Trace) (i : Fin 1280), sampleAt (workingTrace v b) i.val = v[i] - b[i])
    ∧ ∀ (j : Job) (g : JobStage), j.snapshot.launchOffset ≤ 255 →
    let own := ownEchoes j g
    let l0 := j.snapshot.launchOffset
    let profile := j.snapshot.profile
    let s0 := (l0 + 3) / 4 + 8
    let trace (y : Pair) : Trace := workingTrace (g.capture.get y) (g.baseline.get y)
    let w (i : Nat) : Int := sampleAt (trace g.pair) i
    let candidate (o i : Nat) : Prop :=
      o ≤ i ∧ i ≤ 1278 ∧ threshold j.a0 profile.floor ≤ (w i).natAbs
      ∧ (if i = o then (w (i - 1)).natAbs ≤ (w i).natAbs else (w (i - 1)).natAbs < (w i).natAbs)
      ∧ ∃ k, i < k ∧ k ≤ 1279 ∧ (w k).natAbs < (w i).natAbs ∧ ∀ m, i < m → m < k → (w m).natAbs = (w i).natAbs
    let cm (i : Nat) : Nat :=
      distanceOf (positionOf i (w (i - 1)).natAbs (w i).natAbs (w (i + 1)).natAbs) l0 profile.nvp
    let rho (i : Nat) : Int := rhoOf (w i) (gainOf (cm i) profile.atten) j.a0
    let taken (o i : Nat) (k : FindingKind) : Prop :=
      candidate o i ∧ kindOf (rho i) profile.floor profile.hard = some k
        ∧ (j.kind = .quick → k = .openEnd ∨ k = .short)
    let openAt (n : Nat) : Nat := match n with
      | 0 => s0
      | m + 1 => ((own[m]?).map fun e => e.origin + 12).getD 0
    let peak (y : Pair) : Peak := crossPeak l0 (trace y)
    let coupling (y : Pair) : Nat := couplingOf (peak y).value j.a0
    let crossShort (y : Pair) : Option Echo :=
      if profile.cross ≤ coupling y ∧ (j.kind = .full → g.pair.code < y.code) then some {
        finding := { pair := g.pair, kind := .crossShort
                     distance := distanceOf (positionOf (peak y).index (peak y).before.natAbs (peak y).value.natAbs
                       (peak y).after.natAbs) l0 profile.nvp
                     rho := if (peak y).value < 0 then -(coupling y : Int) else (coupling y : Int)
                     saturated := g.clip.get y, partner := some y }
        origin := (peak y).index }
      else none
    let kept : List Echo := if j.kind = .quick then [] else
      (([Pair.A, .B, .C, .D].filter (· ≠ g.pair)).filterMap crossShort).filter fun x =>
        own.all fun o => !((o.finding.kind == .openEnd || o.finding.kind == .short)
          && decide (o.finding.distance < x.finding.distance))
    let rank (e : Echo) : Nat := match e.finding.partner with
      | none => 0
      | some y => y.code + 1
    (∀ n e, own[n]? = some e →
      taken (openAt n) e.origin e.finding.kind
      ∧ e.finding = { pair := g.pair, kind := e.finding.kind, distance := cm e.origin, rho := rho e.origin
                      saturated := g.clip.get g.pair, partner := none }
      ∧ (∀ i k, i < e.origin → ¬taken (openAt n) i k)
      ∧ (e.finding.kind = .openEnd ∨ e.finding.kind = .short → own.length = n + 1))
    ∧ ((∀ e ∈ own, e.finding.kind ≠ .openEnd ∧ e.finding.kind ≠ .short) → ∀ i k, ¬taken (openAt own.length) i k)
    ∧ (∀ y, y ≠ g.pair → s0 ≤ (peak y).index ∧ (peak y).index ≤ 1278
      ∧ (peak y).before = sampleAt (trace y) ((peak y).index - 1) ∧ (peak y).value = sampleAt (trace y) (peak y).index
      ∧ (peak y).after = sampleAt (trace y) ((peak y).index + 1)
      ∧ (∀ i, s0 ≤ i → i ≤ 1278 → (sampleAt (trace y) i).natAbs ≤ (peak y).value.natAbs)
      ∧ ∀ i, s0 ≤ i → i < (peak y).index → (sampleAt (trace y) i).natAbs < (peak y).value.natAbs)
    ∧ (j.kind = .quick → (measureStage j g).result.coupling = none)
    ∧ (j.kind ≠ .quick → ∃ c, (measureStage j g).result.coupling = some c ∧ (∀ y, y ≠ g.pair → coupling y ≤ c)
      ∧ ∃ y, y ≠ g.pair ∧ c = coupling y)
    ∧ (∃ all : List Echo, all.Perm (own ++ kept) ∧ (measureStage j g).all = all.map (fun e => e.finding)
      ∧ all.Pairwise fun e f => e.finding.distance < f.finding.distance ∨ e.finding.distance = f.finding.distance
        ∧ (e.origin < f.origin ∨ e.origin = f.origin ∧ rank e ≤ rank f))
    ∧ (measureStage j g).result.saturated = g.clip.get g.pair ∧ (measureStage j g).trace = trace g.pair

/-- R144, R137, R139, R143: every findings list holds at most 3 findings in non-decreasing distance order, and none of a
pair's findings lies beyond an OPEN or SHORT of it; distances and coefficients stay in range. -/
def Obligations.FindingsListLaw : Prop :=
  ∀ (j : Job) (g : JobStage), j.snapshot.profile.inRange → j.snapshot.launchOffset ≤ 255 →
    let m := measureStage j g
    m.result.findings.length ≤ 3 ∧ (m.result.truncated = true ↔ 3 < m.all.length) ∧ m.result.findings = m.all.take 3
    ∧ m.all.Pairwise (fun f h => f.distance ≤ h.distance)
    ∧ (∀ f ∈ m.all, ∀ h ∈ m.all, h.kind = .openEnd ∨ h.kind = .short → f.distance ≤ h.distance)
    ∧ (∀ f ∈ m.all, f.pair = g.pair ∧ f.distance ≤ 17248 ∧ -1000 ≤ f.rho ∧ f.rho ≤ 1000
        ∧ (f.partner.isSome = true ↔ f.kind = .crossShort))
    ∧ (j.kind = .quick → ∀ f ∈ m.all, f.kind = .openEnd ∨ f.kind = .short)
    ∧ (m.result.status = some .fault ↔
        ∃ f ∈ m.all, f.kind = .openEnd ∨ f.kind = .short ∨ f.kind = .crossShort)
    ∧ (m.result.status = some .ok ↔ m.all = [])

/-- R145 to R148: when the verdict is UNTERMINATED or NO_CABLE, with the floored mean as length and END as every measured
pair's status, and what the verdict and length are otherwise; a pair that was not pulsed is absent (R129), and one that was
pulsed has what its stage measured, and its trace in a FULL or PAIR result. R150, R151: the
whole of a passive result, from last margins, their rate's pass threshold and the last insertion loss. -/
def Obligations.VerdictAndLength : Prop :=
  (∀ (j : Job) (n : Averaging), j.stages ≠ [] → let ms := j.stages.map (measureStage j)
    let r := analyse j n
    let lasts := ms.filterMap fun m => (m.result.findings.getLast?).filter fun f => f.kind == .openEnd
    let ends := lasts.length = ms.length ∧ (∀ f ∈ lasts, ∀ h ∈ lasts, f.distance ≤ h.distance + 100)
      ∧ ∀ m ∈ ms, ∀ f ∈ m.all, f.kind ≠ .short ∧ f.kind ≠ .crossShort
    let mean := (lasts.map (·.distance)).sum / lasts.length
    (ends → r.verdict = (if mean < 100 then .noCable else .unterminated)
      ∧ r.length = some { cm := mean, source := .tdrEnd }
      ∧ ∀ m ∈ ms, (r.pairs.get m.pair).status = some .endOfCable)
    ∧ (¬ends → (r.verdict = .fault ↔ ∃ m ∈ ms, m.result.status = some .fault)
      ∧ (r.verdict = .impaired ↔ (∀ m ∈ ms, m.result.status ≠ some .fault)
          ∧ ∃ m ∈ ms, m.result.status = some .impaired)
      ∧ (r.verdict = .ok ↔ ∀ m ∈ ms, m.result.status = some .ok)
      ∧ (r.length ≠ none → r.verdict = .fault ∧ lasts.length = ms.length
          ∧ ∃ f ∈ lasts, r.length = some { cm := f.distance, source := .tdrEnd } ∧ ∀ h ∈ lasts, h.distance ≤ f.distance)
      ∧ (r.verdict = .fault → lasts.length = ms.length → r.length ≠ none))
    ∧ ((j.stages.map fun g => g.pair).Nodup → ∀ m ∈ ms,
      (ends → r.pairs.get m.pair = { m.result with status := some .endOfCable })
      ∧ (¬ends → r.pairs.get m.pair = m.result) ∧ (j.kind ≠ .quick → r.traces.get m.pair = some m.trace))
    ∧ (∀ p, (∀ m ∈ ms, m.pair ≠ p) → r.traces.get p = none ∧ r.pairs.get p =
        { status := none, findings := [], truncated := false, coupling := none, saturated := false, margin := none })
    ∧ r.kind = j.kind ∧ r.profile = j.snapshot.index ∧ r.averaging = n ∧ r.lowLaunch = j.lowLaunch
    ∧ (j.kind = .quick → r.traces = PerPair.all none))
    ∧ ∀ (c : PortCtx) (profile : Profile) (n : Averaging), let r := passiveResult c profile n
      let pair (status : Option PairStatus) (margin : Option Int) : PairResult :=
        { status := status, findings := [], truncated := false, coupling := none, saturated := false, margin := margin }
      r.kind = .passive ∧ r.profile = c.active.profile ∧ r.averaging = n ∧ r.lowLaunch = false
      ∧ r.traces = PerPair.all none
      ∧ (c.lastMargins = none → r.verdict = .unknown ∧ r.pairs = PerPair.all (pair none none))
      ∧ (∀ m, c.lastMargins = some m →
        (∀ x, r.pairs.get x = pair (some (if m.margins.get x < m.rate.pass then .impaired else .ok))
          (some (m.margins.get x)))
        ∧ (r.verdict = .ok ↔ ∀ x, m.rate.pass ≤ m.margins.get x)
        ∧ (r.verdict = .impaired ↔ ∃ x, m.margins.get x < m.rate.pass))
      ∧ r.length = c.insertionLoss.map fun il =>
        { cm := min 20000 (il * 10000 / profile.loss), source := .insertionLoss }

/-! ### The reference -/

/-- R123 to R126, R105: an edge while ABSENT starts the qualification timer, a gap stops it, its expiry declares the
return after the time it still had to run (log entry 3), and a warm-up that it starts finds an empty stage store (log
entry 40); what is met in the other presence does nothing (log entry 5). A loss, whole: the presence and the count; every engine COLD with a warm-up in progress abandoned (R108); then the abort of
each engine found ROUTING or CAPTURING, whose slot completes with ABORTED_REF and without a result (R97, R119; CompletionSteps
says what a completion does), by engine number, the order of several being the model's (log entry 31); and REF_CHANGE after
all of them (deduced, log entry 39). An abort does nothing to an engine with another duty. After it no engine is ROUTING or
CAPTURING, the others have their duty, and, where the matrix and the table meet their laws, no port is routed. -/
def Obligations.ReferenceMonitor : Prop :=
  ∀ s : State,
    (s.reference.present = false → s.reference.qualify = none →
      exec .referenceEdge s = .next { s with reference := { s.reference with qualify := some 1 } })
    ∧ (s.reference.present = true ∨ s.reference.qualify ≠ none → exec .referenceEdge s = .next s)
    ∧ (s.reference.present = false → exec .qualificationGap s =
        .next { s with reference := { s.reference with qualify := none } })
    ∧ (s.reference.present = true → exec .qualificationGap s = .next s ∧ exec .referenceReturn s = .next s)
    ∧ (s.reference.qualify = none → exec .referenceReturn s = .next s)
    ∧ (∀ n, s.reference.present = false → s.reference.qualify = some n → ∃ v : State,
      exec .referenceReturn s = .next v.grantScan
        ∧ let u := s.runOutMs n
          v = { u with
            reference := { u.reference with present := true, qualify := none }
            engines := v.engines, link := v.link }
          ∧ v.link = (u.queueNotice (.refChange { present := true, losses := s.reference.losses, seconds := u.seconds })).link
          ∧ ∀ e, v.engine e = if (s.engine e).warmth = .cold ∧ (s.engine e).duty = .assigned then
              { u.engine e with warmth := .warming, warmup := some 20, accumulator := PerPair.all Trace.zero
                                clip := PerPair.all false, launched := 0, stages := [], pulsePair := none }
            else u.engine e)
    ∧ (s.reference.present = false → exec .referenceLoss s = .next s)
    ∧ (∀ e, let c := s.engine e
      let met := c.duty = .routing ∨ c.duty = .capturing
      (met → ∀ i, s.slotOfEngine e = some i → s.abortForReference e = s.complete i .abortedRef none true)
      ∧ (met → s.slotOfEngine e = none → s.abortForReference e = s.setEngine e { c with
          duty := .free, slot := none, snapshot := none, averaging := none, repetition := none, step := none
          accumulator := PerPair.all Trace.zero, clip := PerPair.all false, launched := 0, stages := []
          pulsePair := none })
      ∧ (¬met → s.abortForReference e = s))
    ∧ (s.reference.present = true →
      let losses := min (s.reference.losses + 1) 65535
      let cold (c : Engine) : Engine :=
        let d := { c with
          warmth := .cold, baselines := none, a0 := none, lowLaunch := false, idle := none, warmup := none }
        if c.warmth = .warming then
          { d with
            step := none, repetition := none, accumulator := PerPair.all Trace.zero, clip := PerPair.all false
            launched := 0, stages := [], pulsePair := none }
        else d
      let cooled : State := { s with
        reference := { present := false, qualify := none, losses := losses }
        engines := Vector.ofFn fun e => cold (s.engine e) }
      let t := ((List.finRange 4).foldl State.abortForReference cooled).queueNotice (.refChange
        { present := false, losses := losses, seconds := s.seconds })
      exec .referenceLoss s = .next t
        ∧ t.reference = { present := false, qualify := none, losses := losses }
        ∧ (∀ e, (t.engine e).warmth = .cold ∧ (t.engine e).baselines = none ∧ (t.engine e).a0 = none
            ∧ (t.engine e).lowLaunch = false ∧ (t.engine e).warmup = none
            ∧ ((s.engine e).duty = .assigned ∨ (s.engine e).duty = .analysing ∨ (s.engine e).duty = .recovering →
                (t.engine e).duty = (s.engine e).duty)
            ∧ (t.engine e).duty ≠ .routing ∧ (t.engine e).duty ≠ .capturing)
        ∧ (s.matrixLaw → s.tableLaw → (∀ p, t.route p = .transceiver)
          ∧ ∀ i x e, s.slot i = some x → x.phase = .assigned e →
            (s.engine e).duty = .routing ∨ (s.engine e).duty = .capturing →
            (s.link.mask.diagDone = false → t.slot i = none)
            ∧ (s.link.mask.diagDone = true → ∃ y, t.slot i = some y ∧ y.phase = .complete
              ∧ y.outcome = some .abortedRef ∧ y.receipt = none ∧ y.port = x.port ∧ y.seq = x.seq ∧ y.tags = x.tags)))

/-! ### The power bus -/

/-- R168, R169: POWER_MAP. A map that breaks a check is refused and changes nothing; one that passes replaces the map
with every entry UNSEEN, empties both queues, orphans the attempt in progress, makes every mapped port UNKNOWN and every
other NONE, and queues one POLL for each entry in map order. What the scheduler does with the ports whose power
state changes is State.setPowers, stated in PowerEventsAndFailedHolds (log entry 13). The freed inbound buffer ends a
stretch (log entry 24). The request is handled at once as its row is taken (log entry 21). -/
def Obligations.PowerMapReplacement : Prop :=
  ∀ (s : State) (tag : Byte) (l : List RawMapEntry), s.handlerFree → l.length ≤ 83 →
    let ok : Prop := l.length ≤ 6
      ∧ (∀ m ∈ l, 8 ≤ m.address.toNat ∧ m.address.toNat ≤ 119 ∧ m.address.toNat ≠ Straps.ownAddress s.straps
          ∧ 1 ≤ m.count.toNat ∧ m.count.toNat ≤ 12 ∧ m.first.toNat + m.count.toNat ≤ 48)
      ∧ l.Pairwise fun x y => x.address ≠ y.address
          ∧ (x.first.toNat + x.count.toNat ≤ y.first.toNat ∨ y.first.toNat + y.count.toNat ≤ x.first.toNat)
    (¬ok → exec (.powerMap tag l) s = .next (s.accepted.answer 0x0D tag .badField []))
    ∧ (ok →
        let map : List MapEntry := l.map fun m =>
          { address := m.address.toNat, first := m.first.toNat, count := m.count.toNat, presence := .unseen, nacks := 0
            rePoll := some 1000 }
        let bus : Bus := match s.bus.slave with
          | .stretching g _ =>
            { s.bus with slave := if g then .general else .event [], acks := s.bus.acks ++ [true] }
          | _ => s.bus
        let replaced : Bus := { bus with
          map := map, queue := [], inbound := [], attempt := s.bus.attempt.map fun a => { a with orphan := true } }
        let v := (s.accepted.setBus replaced).setPowers fun p =>
          some (if ∃ m ∈ l, m.first.toNat ≤ p.val ∧ p.val < m.first.toNat + m.count.toNat then .unknown else .none)
        ∃ t : State, exec (.powerMap tag l) s = .next (t.answer 0x0D tag .ok t.mapData)
        ∧ t = v.setBus { replaced with queue := l.map fun m =>
            { address := m.address.toNat, kind := .poll, mask := 0, losses := 0, retry := .ready } }
        ∧ t.bus.map = map
        ∧ t.bus.inbound = [] ∧ t.bus.phase = s.bus.phase ∧ t.bus.counters = s.bus.counters
        ∧ t.bus.attempt = (s.bus.attempt.map fun a => { a with orphan := true })
        ∧ (∀ p, (t.port p).power =
            if ∃ m ∈ l, m.first.toNat ≤ p.val ∧ p.val < m.first.toNat + m.count.toNat then .unknown else .none)
        ∧ t.store = s.store ∧ t.profiles = s.profiles ∧ t.reference = s.reference ∧ t.straps = s.straps
        ∧ t.clock = s.clock)

/-- R184, R92, R95, R87: what an event of a power state for a port sets, and what the scheduler then does with the port's
ASSIGNED slot, by the new state, the old one and the engine's duty; every change is followed by a grant scan. R94: what
a failed HOLD does to one of the ports it sent, also where its slot is past its hold wait or analysing (DEDUCED, log
entry 17). R169, R176: where a new map or a lost controller sets power states, all are set first, then the scheduler acts
on each change with its scan, in port order (DEDUCED, log entry 13). -/
def Obligations.PowerEventsAndFailedHolds : Prop :=
  (∀ (s : State) (p : PortId) (x : PowerState),
      let old := (s.port p).power
      let ignored := old = x ∨ (old = .holdPending ∧ (x = .detecting ∨ x = .powered))
      (ignored → s.applyPower p x = s)
      ∧ (¬ignored → s.applyPower p x =
          ((s.setPort p { s.port p with power := x }).powerChanged p old).grantScan))
    ∧ (∀ (s : State) (p : PortId) (old : PowerState), s.assignedSlot p = none → s.powerChanged p old = s)
    ∧ (∀ (s : State) (p : PortId) (old : PowerState) (i : SlotId) (x : Slot) (e : EngineId),
      s.assignedSlot p = some i → s.slot i = some x → x.phase = .assigned e →
      let now := (s.port p).power
      let owned := (s.port p).holdOwned
      let disowned := s.setPort p { s.port p with holdOwned := false }
      let ends (u : State) (o : DiagOutcome) : State :=
        if (s.engine e).duty = .analysing then u else u.complete i o none false
      (now = .held ∨ now = .off → old = .holdPending →
        s.powerChanged p old = (s.setSlot i (some { x with holdTimer := none })).routeTest i)
      ∧ (now = .held ∨ now = .off → old ≠ .holdPending → s.powerChanged p old = s.routeTest i)
      ∧ (now = .powered ∨ now = .detecting → s.powerChanged p old = ends s .abortedPower)
      ∧ (now = .fault → old = .holdPending → s.powerChanged p old = ends disowned .powerHoldRefused)
      ∧ (now = .fault → old ≠ .holdPending → s.powerChanged p old = ends s .abortedPower)
      ∧ (now = .unknown ∨ now = .none ∧ owned = true →
        s.powerChanged p old = ends disowned .powerUnavailable)
      ∧ (now = .none → owned = false → s.powerChanged p old = s.routeTest i))
    ∧ (∀ (s : State) (f : PortId → Option PowerState),
      let changed := (List.finRange 48).filter fun p => decide (f p ≠ none ∧ f p ≠ some (s.port p).power)
      let t := { s with ports := Vector.ofFn fun p => { s.port p with power := (f p).getD (s.port p).power } }
      s.setPowers f = changed.foldl (fun u p => (u.powerChanged p (s.port p).power).grantScan) t)
    ∧ ∀ (s : State) (p : PortId) (outcome : DiagOutcome),
      let t := s.setPort p { s.port p with holdOwned := false, power := .unknown }
      let u : State := match s.controllerOf p with
        | some m => if m.presence = Presence.present then t.setBus (t.bus.requestPoll m.address) else t
        | none => t
      (s.assignedSlot p = none ∨ (s.port p).holdOwned = false → s.holdFailed outcome p = s)
      ∧ ∀ i x e, s.assignedSlot p = some i → s.slot i = some x → x.phase = .assigned e → (s.port p).holdOwned = true →
        s.holdFailed outcome p =
          if (s.engine e).duty = .analysing then u.grantScan else u.complete i outcome none false

/-- R171: a HOLD or RELEASE joins the controller's queued entry of its kind in its place, or makes a new one at the tail;
its ports leave the entry of the opposite kind, which goes when it is left empty and not in attempt; every other entry
keeps its place and its contents. What an attempt in progress counts as added meanwhile follows (R172; log entry 20). A
POLL is absorbed by a queued one or added at the tail. One entry for each controller and kind is kept. -/
def Obligations.OutboundQueueFolding : Prop :=
  ∀ (b : Bus) (address : Nat) (ports : PortMask),
    (∀ kind opposite : TxKind, kind = .hold ∧ opposite = .release ∨ kind = .release ∧ opposite = .hold →
      let c := b.request address kind ports
      let new : OutEntry := { address := address, kind := kind, mask := ports, losses := 0, retry := .ready }
      let queued : Prop := ∃ x ∈ b.queue, x.address = address ∧ x.kind = kind
      let stripped := b.queue.filterMap fun x =>
        if x.address = address ∧ x.kind = opposite then
          if x.mask &&& ~~~ports = 0 ∧ b.inAttempt address opposite = false then none
          else some { x with mask := x.mask &&& ~~~ports }
        else some x
      (∀ k, b.inAttempt address k = true ↔
        ∃ a, b.attempt = some a ∧ a.orphan = false ∧ a.address = address ∧ a.kind = k)
      ∧ (queued → c.queue = stripped.map fun x =>
        if x.address = address ∧ x.kind = kind then { x with mask := x.mask ||| ports } else x)
      ∧ (¬queued → c.queue = stripped ++ [new])
      ∧ (∀ a, b.attempt = some a →
        (b.inAttempt address opposite = true → c.attempt = some { a with added := a.added &&& ~~~ports })
        ∧ (b.inAttempt address kind = true → queued → c.attempt = some { a with added := a.added ||| ports })
        ∧ (b.inAttempt address opposite = false → ¬(b.inAttempt address kind = true ∧ queued) → c.attempt = some a))
      ∧ (b.attempt = none → c.attempt = none)
      ∧ (∀ y ∈ c.queue, y.address = address → y.kind = opposite → y.mask &&& ports = 0)
      ∧ ((b.queue.Pairwise fun x y => ¬(x.address = y.address ∧ x.kind = y.kind)) →
        c.queue.Pairwise fun x y => ¬(x.address = y.address ∧ x.kind = y.kind))
      ∧ c = { b with queue := c.queue, attempt := c.attempt })
    ∧ b.requestPoll address = (if ∃ x ∈ b.queue, x.address = address ∧ x.kind = .poll then b
      else { b with queue := b.queue ++ [{ address := address, kind := .poll, mask := 0, losses := 0
                                           retry := .ready }] })

/-- R167, R173, R178, R182: START, STOP and the idle bus. Another master's START begins its transfer, or begins the
running backoff of the head anew; the end of the transfer lets the head's wait run and discards a partial event (the idle
timeout like a STOP: log entry 19). A START in BUSY begins a new address byte (deduced, log entry 27), also after a
refused byte, a placed event or another address (the model's choice, log entry 41), and one in MASTER or STUCK changes
nothing (log entry 27); what cannot occur in the bus state does nothing (log entry 5). The head starts its attempt on a free bus
once its retry time has passed (log entry 3), sending its mask as it stands in the bytes of R205 (the record of them is
the model's, log entry 7), or withdraws before its START. -/
def Obligations.BusConditionsAndAttemptStart : Prop :=
  (∀ (s : State) (x : OutEntry) (rest : List OutEntry), s.bus.queue = x :: rest →
      let waits (r : Retry) : List OutEntry := { x with retry := r } :: rest
      let heard (q : List OutEntry) : State :=
        s.setBus { s.bus with phase := .busy, slave := .listening, acks := [], queue := q }
      let freed (q : List OutEntry) : State := s.setBus { s.bus with phase := .idle, slave := .aside, queue := q }
      (s.bus.phase = .idle → (∀ n, x.retry = .backingOff n →
          exec .busStartDetected s = .next (heard (waits (.afterStop (100 * x.losses)))))
        ∧ ((∀ n, x.retry ≠ .backingOff n) → exec .busStartDetected s = .next (heard s.bus.queue)))
      ∧ (s.bus.phase = .busy → ∀ c, c = .busStopDetected ∨ c = .busIdleTimeout →
        (x.retry = .afterStop 0 → exec c s = .next (freed (waits .ready)))
        ∧ (∀ n, x.retry = .afterStop (n + 1) → exec c s = .next (freed (waits (.backingOff (n + 1)))))
        ∧ ((∀ n, x.retry ≠ .afterStop n) → exec c s = .next (freed s.bus.queue))))
    ∧ (∀ s : State,
      (s.bus.phase = .idle → s.bus.queue = [] → exec .busStartDetected s = .next
        (s.setBus { s.bus with phase := .busy, slave := .listening, acks := [] }))
      ∧ (s.bus.phase = .busy → exec .busStartDetected s = .next
        (s.setBus { s.bus with slave := .listening, acks := [] }))
      ∧ (s.bus.phase = .master ∨ s.bus.phase = .stuck → exec .busStartDetected s = .next s)
      ∧ (s.bus.phase = .busy → s.bus.queue = [] → ∀ c, c = .busStopDetected ∨ c = .busIdleTimeout →
        exec c s = .next (s.setBus { s.bus with phase := .idle, slave := .aside }))
      ∧ (s.bus.phase ≠ .busy → exec .busStopDetected s = .next s ∧ exec .busIdleTimeout s = .next s)
      ∧ (s.bus.phase ≠ .idle ∨ s.bus.queue = [] → ∀ w, exec (.attemptStart w) s = .next s))
    ∧ ∀ (s : State) (x : OutEntry) (rest : List OutEntry), s.bus.phase = .idle → s.bus.queue = x :: rest →
      let mask : List Byte := [byteOf (x.mask.toNat / 256), byteOf x.mask.toNat]
      let bytes : List Byte := match x.kind with
        | .hold => byteOf (2 * x.address) :: 0x01 :: (mask ++ [0x05])
        | .release => byteOf (2 * x.address) :: 0x02 :: mask
        | .poll => [byteOf (2 * x.address), 0x03, byteOf (2 * x.address + 1)]
      let started (u : State) (y : OutEntry) (tail : List OutEntry) : State := u.setBus { u.bus with
        phase := .master, slave := .aside, acks := [], out := bytes, queue := { y with retry := .ready } :: tail
        attempt := some { address := x.address, kind := x.kind
                          count := ((s.entryAt x.address).map (fun m => m.count)).getD 0, sent := x.mask, added := 0
                          orphan := false } }
      let withdrawn (u : State) (y : OutEntry) (tail : List OutEntry) : State := u.setBus { u.bus with
        phase := .busy, slave := .listening, acks := []
        queue := { y with retry := .afterStop (100 * y.losses) } :: tail }
      (x.retry = .ready → exec (.attemptStart false) s = .next (started s x rest)
        ∧ exec (.attemptStart true) s = .next (withdrawn s x rest))
      ∧ (∀ n, x.retry = .running n ∨ x.retry = .backingOff n →
        let u := s.runOutUs n
        ∃ y tail, u.bus.queue = y :: tail ∧ y.address = x.address ∧ y.kind = x.kind ∧ y.mask = x.mask
          ∧ y.losses = x.losses ∧ exec (.attemptStart false) s = .next (started u y tail)
          ∧ exec (.attemptStart true) s = .next (withdrawn u y tail))
      ∧ ∀ n, x.retry = .afterStop n → ∀ w, exec (.attemptStart w) s = .next s

/-- R172, R174 to R177, R205: what the success of an attempt, an address NACK and a data NACK do to its entry, its
controller, the counters and the ports. A POLL succeeds with one state byte for each port of its controller, all
acknowledged but the last (the record of those bits is the model's, log entry 7); byte k is local port k's, and they act
in that order (log entry 35); another number of bytes is no success and changes nothing (log entries 5, 25). Ports named
again during the attempt stay (log entry 20); a lost controller's ports act in the order of log entry 13, a failed
HOLD's in that of 30, those alone that own a hold when it fails (R172). The outcome of an attempt whose map was replaced
is ignored and counts nothing (R169; log entry 18); outside MASTER no outcome has an effect (log entry 5). -/
def Obligations.TransactionOutcomes : Prop :=
  (∀ (s : State) (a : Attempt) (x : OutEntry) (rest : List OutEntry) (m : MapEntry), s.bus.attempts a x rest →
      s.entryAt a.address = some m →
      let kept := x.mask &&& (~~~a.sent ||| a.added)
      let owners := (m.sentPorts a.sent).filter fun p => (s.assignedSlot p).isSome && (s.port p).holdOwned
      let ended := { s.bus with phase := .idle, attempt := none }
      let nacked : BusCounters :=
        { s.bus.counters with addressNacks := satInc16 s.bus.counters.addressNacks }
      (a.kind = .hold ∨ a.kind = .release → ∀ bytes, exec (.transactionSuccess bytes) s = .next (s.setBus { ended with
          map := mapNacks s.bus.map a.address 0
          queue := if kept = 0 then rest else { x with mask := kept, losses := 0, retry := .ready } :: rest }))
      ∧ (a.kind = .poll → ∀ bytes,
        (bytes.length = a.count →
          let t := s.setBus { ended with
            queue := rest, acks := s.bus.acks ++ (List.range a.count).map fun k => decide (k + 1 < a.count)
            map := s.bus.map.map fun y =>
              if y.address = a.address then { y with nacks := 0, presence := .present, rePoll := none } else y }
          let u := t.applyStates m.first 0 bytes
          exec (.transactionSuccess bytes) s = .next (if m.presence = .present then u else u.grantScan))
        ∧ (bytes.length ≠ a.count → exec (.transactionSuccess bytes) s = .next s))
      ∧ (∀ second : Bool, let n := (if second then 0 else m.nacks) + 1
        (n < 3 → exec (.addressNack second) s = .next (s.setBus { ended with
            map := mapNacks s.bus.map a.address n, counters := nacked, queue := retried x (.running 1000) rest }))
        ∧ (3 ≤ n → m.presence = .lost → exec (.addressNack second) s = .next (s.setBus { ended with
            map := mapNacks s.bus.map a.address 0, queue := rest
            counters := { nacked with dropped := satInc16 s.bus.counters.dropped } }))
        ∧ (3 ≤ n → m.presence ≠ .lost →
          let u := s.setBus { ended with
            queue := s.bus.queue.filter (·.address ≠ a.address)
            counters := { nacked with dropped := satInc16 s.bus.counters.dropped }
            map := s.bus.map.map fun y =>
              if y.address = a.address then { y with presence := .lost, nacks := 0, rePoll := some 1000 } else y }
          let v := u.setPowers fun p => if m.feeds p then some .unknown else none
          exec (.addressNack second) s = .next (v.raiseFault .controllerLost (some a.address))
            ∧ ∀ p ∈ m.fedPorts, (v.port p).power = .unknown))
      ∧ let dropped := s.setBus { ended with
          map := mapNacks s.bus.map a.address 0, queue := rest
          counters := { s.bus.counters with
            dataNacks := satInc16 s.bus.counters.dataNacks, dropped := satInc16 s.bus.counters.dropped } }
        (a.kind = .hold → exec .dataNack s = .next
          (owners.foldl (fun t p => t.holdFailed .powerHoldRefused p) dropped))
        ∧ (a.kind ≠ .hold → exec .dataNack s = .next (dropped.raiseFault .dataRefused (some a.address))))
    ∧ (∀ (s : State) (first k : Nat) (b : Byte) (bytes : List Byte), s.applyStates first k [] = s
      ∧ (∀ p : PortId, p.val = first + k → s.applyStates first k (b :: bytes) =
          State.applyStates (match PowerState.ofEventCode b.toNat with
            | some x => s.applyPower p x
            | none => s) first (k + 1) bytes))
    ∧ ∀ s : State,
      (∀ a, s.bus.phase = .master → s.bus.attempt = some a → a.orphan = true →
        let t := s.setBus { s.bus with phase := .idle, attempt := none }
        (∀ bytes, (a.kind ≠ .poll → exec (.transactionSuccess bytes) s = .next t)
          ∧ (a.kind = .poll → bytes.length = a.count → exec (.transactionSuccess bytes) s = .next (t.setBus { t.bus with
              acks := s.bus.acks ++ (List.range a.count).map fun k => decide (k + 1 < a.count) }))
          ∧ (a.kind = .poll → bytes.length ≠ a.count → exec (.transactionSuccess bytes) s = .next s))
          ∧ (∀ second, exec (.addressNack second) s = .next t)
          ∧ exec .dataNack s = .next t)
      ∧ (s.bus.phase ≠ .master → (∀ bytes, exec (.transactionSuccess bytes) s = .next s)
          ∧ (∀ second, exec (.addressNack second) s = .next s) ∧ exec .dataNack s = .next s)

/-- R178 to R180, R176: the loss of arbitration below its limit and at it (the ports of a dropped HOLD that own a hold
at the drop, R172, in the order of log entry 30, its POWER_FAULT after them: log entry 37), the declaration, none while
the part itself stretches the clock, and the end of a stuck bus (backoff and partial event: log entry 19), after which
every map entry without a queued POLL is polled in map order, and the re-poll of a controller that is not PRESENT, after
the time its timer still had to run (log entry 3). An attempt whose map was replaced is forgotten without a count of its
own (log entry 18); what cannot occur in the bus state does nothing (log entry 5). -/
def Obligations.ArbitrationStuckBusAndRePoll : Prop :=
  (∀ (s : State) (a : Attempt) (x : OutEntry) (rest : List OutEntry) (m : MapEntry) (acked : Bool)
      (byte : Option Byte), s.bus.attempts a x rest → s.entryAt a.address = some m →
      let heard := { s.bus with phase := .busy, slave := .aside, acks := [] }
      let b := match byte with
        | some y => heard.addressByte (Straps.ownAddress s.straps) y
        | none => heard
      let map := if acked then mapNacks s.bus.map a.address 0 else s.bus.map
      let owners := (m.sentPorts a.sent).filter fun p => (s.assignedSlot p).isSome && (s.port p).holdOwned
      let counted : BusCounters :=
        { s.bus.counters with arbitrationLosses := satInc16 s.bus.counters.arbitrationLosses }
      (x.losses < 7 → exec (.arbitrationLoss acked byte) s = .next (s.setBus { b with
          map := map, counters := counted, attempt := none
          queue := retried { x with losses := x.losses + 1 } (.afterStop (100 * (x.losses + 1))) rest }))
      ∧ (7 ≤ x.losses →
        let u := s.setBus { b with
          map := map, attempt := none, queue := rest
          counters := { counted with dropped := satInc16 s.bus.counters.dropped } }
        (a.kind ≠ .hold → exec (.arbitrationLoss acked byte) s = .next
          (u.raiseFault .arbitrationLimit (some a.address)))
        ∧ (a.kind = .hold → exec (.arbitrationLoss acked byte) s = .next
          ((owners.foldl (fun t p => t.holdFailed .powerUnavailable p) u).raiseFault .arbitrationLimit
            (some a.address))))
      ∧ ((∀ g n, s.bus.slave ≠ .stretching g n) → exec (.stuckBus acked) s = .next ((s.setBus { s.bus with
          phase := .stuck, slave := .aside, map := map, attempt := none, queue := retried x .ready rest
          counters := { s.bus.counters with stuck := satInc16 s.bus.counters.stuck } }).raiseFault .stuckBus none)))
    ∧ (∀ (s : State) (acked : Bool),
      (s.bus.phase ≠ .stuck → (∀ g n, s.bus.slave ≠ .stretching g n) →
        (∀ a, s.bus.attempt = some a → a.orphan = true) →
        exec (.stuckBus acked) s = .next ((s.setBus { s.bus with
          phase := .stuck, slave := .aside, attempt := none
          counters := { s.bus.counters with stuck := satInc16 s.bus.counters.stuck } }).raiseFault .stuckBus none))
      ∧ (∀ a, s.bus.phase = .master → s.bus.attempt = some a → a.orphan = true →
        let heard := { s.bus with phase := .busy, slave := .aside, acks := [], attempt := none }
        exec (.arbitrationLoss acked none) s = .next (s.setBus heard)
        ∧ ∀ byte, exec (.arbitrationLoss acked (some byte)) s =
          .next (s.setBus (heard.addressByte (Straps.ownAddress s.straps) byte)))
      ∧ (s.bus.phase = .stuck ∨ (∃ g n, s.bus.slave = .stretching g n) → exec (.stuckBus acked) s = .next s)
      ∧ (s.bus.phase ≠ .stuck → exec .stuckBusEnd s = .next s)
      ∧ (s.bus.phase ≠ .master → ∀ byte, exec (.arbitrationLoss acked byte) s = .next s)
      ∧ (s.bus.phase = .stuck → (s.bus.map.Pairwise fun m n => m.address ≠ n.address) →
        exec .stuckBusEnd s = .next (s.setBus { s.bus with
          phase := .idle
          queue := (match s.bus.queue with
            | [] => []
            | x :: rest => { x with retry := match x.retry with
                | .afterStop 0 => .ready
                | .afterStop n => .backingOff n
                | r => r } :: rest)
            ++ (s.bus.map.filter fun m => s.bus.queue.all fun x => !(x.address == m.address && x.kind == .poll)).map
              fun m => { address := m.address, kind := .poll, mask := 0, losses := 0, retry := .ready } })))
    ∧ ∀ (s : State) (k : Fin 6),
      (∀ m n, s.bus.map[k.val]? = some m → m.presence ≠ .present → m.rePoll = some n →
        let u := s.runOutMs n
        exec (.rePollTimerExpiry k) s = .next (u.setBus { u.bus.requestPoll m.address with
          map := u.bus.map.map fun y => if y.address = m.address then { y with rePoll := some 1000 } else y }))
      ∧ ((∀ m, s.bus.map[k.val]? = some m → m.presence = .present ∨ m.rePoll = none) →
        exec (.rePollTimerExpiry k) s = .next s)

/-- R181 to R185: how the part answers an address byte, the bytes of an EVENT and those of a general call, the end of a
stretch without a free place, and the taking of the oldest inbound entry, which may end a stretch. The bytes of an EVENT
may come in one command or several (log entry 25). An ALL_POWER_DOWN
does not count as an event accepted (log entry 9); the stretch first lets its remaining time pass (log entry 3); an
event names port first + k of the entry that holds its address when it is taken, also where a new map has made k too
large (log entry 24), and the POLL of a controller that is not PRESENT is queued last (log entry 36); what cannot occur
in the state does nothing (log entry 5). -/
def Obligations.SlaveSide : Prop :=
  ∀ s : State,
    let own := Straps.ownAddress s.straps
    let after (sl : Slave) (acks : List Bool) : State :=
      s.setBus { s.bus with slave := sl, acks := s.bus.acks ++ acks }
    let refused (acks : List Bool) : State := s.setBus { s.bus with
      slave := .aside, acks := s.bus.acks ++ acks
      counters := { s.bus.counters with bytesRefused := satInc16 s.bus.counters.bytesRefused } }
    let noes (l : List Byte) : List Bool := l.map fun _ => false
    let placed (src lp : Byte) (x : PowerState) (acks : List Bool) : State := s.setBus { s.bus with
      slave := .aside, acks := s.bus.acks ++ acks, inbound := s.bus.inbound ++ [.event src.toNat lp.toNat x]
      counters := { s.bus.counters with accepted := satInc16 s.bus.counters.accepted } }
    (s.bus.phase = .busy → s.bus.slave = .listening → ∀ byte : Byte,
      (byte.toNat = 2 * own → s.bus.inbound.length < 4 →
        exec (.slaveAddressByte byte) s = .next (after (.event []) [true]))
      ∧ (byte.toNat = 2 * own → 4 ≤ s.bus.inbound.length →
        exec (.slaveAddressByte byte) s = .next (after (.stretching false 10) []))
      ∧ (byte = 0 → s.bus.inbound.length < 4 → exec (.slaveAddressByte byte) s = .next (after .general [true]))
      ∧ (byte = 0 → 4 ≤ s.bus.inbound.length →
        exec (.slaveAddressByte byte) s = .next (after (.stretching true 10) []))
      ∧ (byte ≠ 0 → byte.toNat ≠ 2 * own → exec (.slaveAddressByte byte) s = .next (after .aside [false])))
    ∧ (s.bus.phase ≠ .busy ∨ s.bus.slave ≠ .listening → ∀ byte, exec (.slaveAddressByte byte) s = .next s)
    ∧ (∀ g n, s.bus.slave = .stretching g n →
      let u := s.runOutMs n
      exec .stretchTimeout s = .next (u.setBus { u.bus with
        slave := .aside, acks := u.bus.acks ++ [false]
        counters := { u.bus.counters with refusedFull := satInc16 u.bus.counters.refusedFull } }))
    ∧ ((∀ g n, s.bus.slave ≠ .stretching g n) → exec .stretchTimeout s = .next s)
    ∧ (s.bus.slave = .event [] → ∀ (src lp st : Byte) (more : List Byte),
      ((∀ m ∈ s.bus.map, m.address ≠ src.toNat) →
        exec (.eventWrite (src :: more)) s = .next (refused (false :: noes more)))
      ∧ ∀ m, s.entryAt src.toNat = some m →
        exec (.eventWrite [src]) s = .next (after (.event [src]) [true])
        ∧ (m.count ≤ lp.toNat →
          exec (.eventWrite (src :: lp :: more)) s = .next (refused (true :: false :: noes more)))
        ∧ (lp.toNat < m.count →
          exec (.eventWrite [src, lp]) s = .next (after (.event [src, lp]) [true, true])
          ∧ (PowerState.ofEventCode st.toNat = none → exec (.eventWrite (src :: lp :: st :: more)) s = .next
            (refused (true :: true :: false :: noes more)))
          ∧ ∀ x, PowerState.ofEventCode st.toNat = some x → exec (.eventWrite (src :: lp :: st :: more)) s = .next
            (placed src lp x (true :: true :: true :: noes more))))
    ∧ (∀ (src : Byte), s.bus.slave = .event [src] → ∀ (lp st : Byte) (more : List Byte),
      ((∀ m ∈ s.bus.map, m.address ≠ src.toNat) →
        exec (.eventWrite (lp :: more)) s = .next (refused (false :: noes more)))
      ∧ ∀ m, s.entryAt src.toNat = some m →
        (m.count ≤ lp.toNat → exec (.eventWrite (lp :: more)) s = .next (refused (false :: noes more)))
        ∧ (lp.toNat < m.count →
          exec (.eventWrite [lp]) s = .next (after (.event [src, lp]) [true])
          ∧ (PowerState.ofEventCode st.toNat = none → exec (.eventWrite (lp :: st :: more)) s = .next
            (refused (true :: false :: noes more)))
          ∧ ∀ x, PowerState.ofEventCode st.toNat = some x → exec (.eventWrite (lp :: st :: more)) s = .next
            (placed src lp x (true :: true :: noes more))))
    ∧ (∀ (src lp : Byte), s.bus.slave = .event [src, lp] → ∀ (st : Byte) (more : List Byte),
      (PowerState.ofEventCode st.toNat = none →
        exec (.eventWrite (st :: more)) s = .next (refused (false :: noes more)))
      ∧ ∀ x, PowerState.ofEventCode st.toNat = some x →
        exec (.eventWrite (st :: more)) s = .next (placed src lp x (true :: noes more)))
    ∧ ((∀ got, s.bus.slave ≠ .event got) → ∀ bytes, exec (.eventWrite bytes) s = .next s)
    ∧ (s.bus.slave = .general → ∀ (b : Byte) (more : List Byte),
      (b = 0x5A → exec (.generalCallReceived (b :: more)) s = .next (s.setBus { s.bus with
          slave := .aside, acks := s.bus.acks ++ (true :: noes more)
          inbound := s.bus.inbound ++ [.allPowerDown] }))
      ∧ (b ≠ 0x5A → exec (.generalCallReceived (b :: more)) s = .next (refused (false :: noes more))))
    ∧ (s.bus.slave ≠ .general → ∀ bytes, exec (.generalCallReceived bytes) s = .next s)
    ∧ (s.bus.inbound = [] → exec .inboundEntryTaken s = .next s)
    ∧ ∀ (first : Inbound) (rest : List Inbound), s.bus.inbound = first :: rest →
      let b := { s.bus with inbound := rest }
      let t := s.setBus (match s.bus.slave with
        | .stretching g _ => if rest.length < 4 then
            { b with slave := if g then .general else .event [], acks := s.bus.acks ++ [true] } else b
        | _ => b)
      (∀ (address k : Nat) (x : PowerState) (m : MapEntry) (p : PortId), first = .event address k x →
        s.entryAt address = some m → p.val = m.first + k →
        let u := t.applyPower p x
        exec .inboundEntryTaken s =
          .next (if m.presence = .present then u else u.setBus (u.bus.requestPoll address)))
      ∧ (first = .allPowerDown → (∀ m ∈ s.bus.map, m.count ≤ 12) → exec .inboundEntryTaken s =
          .next ((s.bus.map.flatMap MapEntry.fedPorts).foldl (fun u p => u.applyPower p .off) t))

/-! ### Invariants that every step keeps -/

/-- R79, R91, R110, R96: for any port at most one slot in QUEUED and one in ASSIGNED; hold owned only while a slot for the
port is in ASSIGNED; an engine routed to at most one port, which is in DIAGNOSE with its power state NONE, OFF or HELD;
and the inbound buffer holds the five reportable power states alone (R182, R183), without which an event could set
another. Every step keeps them, from every state. -/
def Obligations.RequestTableAndMatrixLawsKept : Prop :=
  ∀ s t : State, s.tableLaw → s.matrixLaw → s.holdLaw → s.inboundLaw → step s = .next t →
    t.tableLaw ∧ t.matrixLaw ∧ t.holdLaw ∧ t.inboundLaw

/-- Section 6.1, R104 to R107, R109, R115, R117, R118: the law of the engines: a COLD engine is never ROUTING or
CAPTURING; a WARMING one is ASSIGNED or FREE; baselines and A0 are present exactly in WARM, A0 in 200 to 511; the idle
timer runs exactly in a WARM FREE engine, the warm-up timer exactly in a WARMING one; slot, snapshot and averaging are
present exactly while a slot is served; the analyser has a job exactly for an ANALYSING engine; a pulse pair is present
only in CAPTURING or WARMING, where the end of a warm-up is the model's choice (log entry 40). Every step keeps it, from
every state. -/
def Obligations.EngineLawKept : Prop := ∀ s t : State, s.engineLaw → step s = .next t → t.engineLaw

/-- R16, R55, R63, R17, R10, R2 to R5, R25: the laws of the ports: fail counts, flap counts and policies in range, a rate
barred exactly at the limit, a current rate that is allowed and not barred, the timers running only in their states,
return info exactly in DIAGNOSE. Every step keeps them, from every state. -/
def Obligations.PortLawsKept : Prop := ∀ s t : State, s.portLaw → step s = .next t → t.portLaw

/-- R157, R156, R161: the law of the Trace Store. Every step keeps it, from every state. -/
def Obligations.TraceStoreLawKept : Prop := ∀ s t : State, s.store.law → step s = .next t → t.store.law

/-- R195, R101: the law of the notice queue, with its bound of 83 notices: every step keeps it, from every state. The
slots in COMPLETE are exactly those whose DIAG_DONE waits or is being transmitted, so none is freed early and none is
left behind. -/
def Obligations.NoticeQueueLawKept : Prop :=
  ∀ s t : State, s.noticeLaw → step s = .next t → t.noticeLaw ∧ t.link.notices.length ≤ 83

/-- R71, R33, R36 to R38, R45, R168, R171, R181, R183, R191: the ranges of the profile table, the bounds of the FIFOs and
buffers, the one outbound entry for each controller of the map and kind, so that at most 18 wait, and the law of the
Controller Map. Every step keeps them, from every state. -/
def Obligations.TableAndQueueBoundsKept : Prop :=
  ∀ s t : State, s.profileLaw ∧ s.laneLaw ∧ s.queueLaw ∧ s.mapLaw → step s = .next t →
    t.profileLaw ∧ t.laneLaw ∧ t.queueLaw ∧ t.mapLaw ∧ t.bus.queue.length ≤ 18

/-- The laws that every step keeps hold after a reset of either cause, whatever the straps. -/
def Obligations.LawsHoldAfterReset : Prop :=
  ∀ (cause : StartCause) (pins : Straps), let s := State.resetWith cause pins
    s.tableLaw ∧ s.matrixLaw ∧ s.holdLaw ∧ s.inboundLaw ∧ s.portLaw ∧ s.engineLaw ∧ s.store.law ∧ s.noticeLaw
      ∧ s.profileLaw ∧ s.laneLaw ∧ s.queueLaw ∧ s.mapLaw
end

