-- ==== Sys2Proof/Laws/State.lean ====
section
/-! SUPPORT. One lemma for each field and each update of State: what an update leaves, and what it sets. -/

namespace Sys2Proof.Machine

variable (s : State)

/-! ### modPort -/

@[simp] theorem State.modPort_seconds (p : PortId) (f : PortCtx → PortCtx) : (s.modPort p f).seconds = s.seconds := rfl
@[simp] theorem State.modPort_millis (p : PortId) (f : PortCtx → PortCtx) : (s.modPort p f).millis = s.millis := rfl
@[simp] theorem State.modPort_micros (p : PortId) (f : PortCtx → PortCtx) : (s.modPort p f).micros = s.micros := rfl
@[simp] theorem State.modPort_pins (p : PortId) (f : PortCtx → PortCtx) : (s.modPort p f).pins = s.pins := rfl
@[simp] theorem State.modPort_straps (p : PortId) (f : PortCtx → PortCtx) : (s.modPort p f).straps = s.straps := rfl
@[simp] theorem State.modPort_link (p : PortId) (f : PortCtx → PortCtx) : (s.modPort p f).link = s.link := rfl
@[simp] theorem State.modPort_profiles (p : PortId) (f : PortCtx → PortCtx) : (s.modPort p f).profiles = s.profiles := rfl
@[simp] theorem State.modPort_lanes (p : PortId) (f : PortCtx → PortCtx) : (s.modPort p f).lanes = s.lanes := rfl
@[simp] theorem State.modPort_slots (p : PortId) (f : PortCtx → PortCtx) : (s.modPort p f).slots = s.slots := rfl
@[simp] theorem State.modPort_admissions (p : PortId) (f : PortCtx → PortCtx) : (s.modPort p f).admissions = s.admissions := rfl
@[simp] theorem State.modPort_taken (p : PortId) (f : PortCtx → PortCtx) : (s.modPort p f).taken = s.taken := rfl
@[simp] theorem State.modPort_engines (p : PortId) (f : PortCtx → PortCtx) : (s.modPort p f).engines = s.engines := rfl
@[simp] theorem State.modPort_routes (p : PortId) (f : PortCtx → PortCtx) : (s.modPort p f).routes = s.routes := rfl
@[simp] theorem State.modPort_reference (p : PortId) (f : PortCtx → PortCtx) : (s.modPort p f).reference = s.reference := rfl
@[simp] theorem State.modPort_jobs (p : PortId) (f : PortCtx → PortCtx) : (s.modPort p f).jobs = s.jobs := rfl
@[simp] theorem State.modPort_store (p : PortId) (f : PortCtx → PortCtx) : (s.modPort p f).store = s.store := rfl
@[simp] theorem State.modPort_bus (p : PortId) (f : PortCtx → PortCtx) : (s.modPort p f).bus = s.bus := rfl
@[simp] theorem State.modPort_freeCount (p : PortId) (f : PortCtx → PortCtx) : (s.modPort p f).freeCount = s.freeCount := rfl
@[simp] theorem State.modPort_pending (p : PortId) (f : PortCtx → PortCtx) : (s.modPort p f).pending = s.pending := rfl

/-! ### setPort -/

@[simp] theorem State.setPort_seconds (p : PortId) (c : PortCtx) : (s.setPort p c).seconds = s.seconds := rfl
@[simp] theorem State.setPort_millis (p : PortId) (c : PortCtx) : (s.setPort p c).millis = s.millis := rfl
@[simp] theorem State.setPort_micros (p : PortId) (c : PortCtx) : (s.setPort p c).micros = s.micros := rfl
@[simp] theorem State.setPort_pins (p : PortId) (c : PortCtx) : (s.setPort p c).pins = s.pins := rfl
@[simp] theorem State.setPort_straps (p : PortId) (c : PortCtx) : (s.setPort p c).straps = s.straps := rfl
@[simp] theorem State.setPort_link (p : PortId) (c : PortCtx) : (s.setPort p c).link = s.link := rfl
@[simp] theorem State.setPort_profiles (p : PortId) (c : PortCtx) : (s.setPort p c).profiles = s.profiles := rfl
@[simp] theorem State.setPort_lanes (p : PortId) (c : PortCtx) : (s.setPort p c).lanes = s.lanes := rfl
@[simp] theorem State.setPort_slots (p : PortId) (c : PortCtx) : (s.setPort p c).slots = s.slots := rfl
@[simp] theorem State.setPort_admissions (p : PortId) (c : PortCtx) : (s.setPort p c).admissions = s.admissions := rfl
@[simp] theorem State.setPort_taken (p : PortId) (c : PortCtx) : (s.setPort p c).taken = s.taken := rfl
@[simp] theorem State.setPort_engines (p : PortId) (c : PortCtx) : (s.setPort p c).engines = s.engines := rfl
@[simp] theorem State.setPort_routes (p : PortId) (c : PortCtx) : (s.setPort p c).routes = s.routes := rfl
@[simp] theorem State.setPort_reference (p : PortId) (c : PortCtx) : (s.setPort p c).reference = s.reference := rfl
@[simp] theorem State.setPort_jobs (p : PortId) (c : PortCtx) : (s.setPort p c).jobs = s.jobs := rfl
@[simp] theorem State.setPort_store (p : PortId) (c : PortCtx) : (s.setPort p c).store = s.store := rfl
@[simp] theorem State.setPort_bus (p : PortId) (c : PortCtx) : (s.setPort p c).bus = s.bus := rfl
@[simp] theorem State.setPort_freeCount (p : PortId) (c : PortCtx) : (s.setPort p c).freeCount = s.freeCount := rfl
@[simp] theorem State.setPort_pending (p : PortId) (c : PortCtx) : (s.setPort p c).pending = s.pending := rfl

/-! ### modLane -/

@[simp] theorem State.modLane_seconds (l : LaneId) (f : Lane → Lane) : (s.modLane l f).seconds = s.seconds := rfl
@[simp] theorem State.modLane_millis (l : LaneId) (f : Lane → Lane) : (s.modLane l f).millis = s.millis := rfl
@[simp] theorem State.modLane_micros (l : LaneId) (f : Lane → Lane) : (s.modLane l f).micros = s.micros := rfl
@[simp] theorem State.modLane_pins (l : LaneId) (f : Lane → Lane) : (s.modLane l f).pins = s.pins := rfl
@[simp] theorem State.modLane_straps (l : LaneId) (f : Lane → Lane) : (s.modLane l f).straps = s.straps := rfl
@[simp] theorem State.modLane_link (l : LaneId) (f : Lane → Lane) : (s.modLane l f).link = s.link := rfl
@[simp] theorem State.modLane_ports (l : LaneId) (f : Lane → Lane) : (s.modLane l f).ports = s.ports := rfl
@[simp] theorem State.modLane_profiles (l : LaneId) (f : Lane → Lane) : (s.modLane l f).profiles = s.profiles := rfl
@[simp] theorem State.modLane_slots (l : LaneId) (f : Lane → Lane) : (s.modLane l f).slots = s.slots := rfl
@[simp] theorem State.modLane_admissions (l : LaneId) (f : Lane → Lane) : (s.modLane l f).admissions = s.admissions := rfl
@[simp] theorem State.modLane_taken (l : LaneId) (f : Lane → Lane) : (s.modLane l f).taken = s.taken := rfl
@[simp] theorem State.modLane_engines (l : LaneId) (f : Lane → Lane) : (s.modLane l f).engines = s.engines := rfl
@[simp] theorem State.modLane_routes (l : LaneId) (f : Lane → Lane) : (s.modLane l f).routes = s.routes := rfl
@[simp] theorem State.modLane_reference (l : LaneId) (f : Lane → Lane) : (s.modLane l f).reference = s.reference := rfl
@[simp] theorem State.modLane_jobs (l : LaneId) (f : Lane → Lane) : (s.modLane l f).jobs = s.jobs := rfl
@[simp] theorem State.modLane_store (l : LaneId) (f : Lane → Lane) : (s.modLane l f).store = s.store := rfl
@[simp] theorem State.modLane_bus (l : LaneId) (f : Lane → Lane) : (s.modLane l f).bus = s.bus := rfl
@[simp] theorem State.modLane_freeCount (l : LaneId) (f : Lane → Lane) : (s.modLane l f).freeCount = s.freeCount := rfl
@[simp] theorem State.modLane_pending (l : LaneId) (f : Lane → Lane) : (s.modLane l f).pending = s.pending := rfl

/-! ### setLane -/

@[simp] theorem State.setLane_seconds (l : LaneId) (x : Lane) : (s.setLane l x).seconds = s.seconds := rfl
@[simp] theorem State.setLane_millis (l : LaneId) (x : Lane) : (s.setLane l x).millis = s.millis := rfl
@[simp] theorem State.setLane_micros (l : LaneId) (x : Lane) : (s.setLane l x).micros = s.micros := rfl
@[simp] theorem State.setLane_pins (l : LaneId) (x : Lane) : (s.setLane l x).pins = s.pins := rfl
@[simp] theorem State.setLane_straps (l : LaneId) (x : Lane) : (s.setLane l x).straps = s.straps := rfl
@[simp] theorem State.setLane_link (l : LaneId) (x : Lane) : (s.setLane l x).link = s.link := rfl
@[simp] theorem State.setLane_ports (l : LaneId) (x : Lane) : (s.setLane l x).ports = s.ports := rfl
@[simp] theorem State.setLane_profiles (l : LaneId) (x : Lane) : (s.setLane l x).profiles = s.profiles := rfl
@[simp] theorem State.setLane_slots (l : LaneId) (x : Lane) : (s.setLane l x).slots = s.slots := rfl
@[simp] theorem State.setLane_admissions (l : LaneId) (x : Lane) : (s.setLane l x).admissions = s.admissions := rfl
@[simp] theorem State.setLane_taken (l : LaneId) (x : Lane) : (s.setLane l x).taken = s.taken := rfl
@[simp] theorem State.setLane_engines (l : LaneId) (x : Lane) : (s.setLane l x).engines = s.engines := rfl
@[simp] theorem State.setLane_routes (l : LaneId) (x : Lane) : (s.setLane l x).routes = s.routes := rfl
@[simp] theorem State.setLane_reference (l : LaneId) (x : Lane) : (s.setLane l x).reference = s.reference := rfl
@[simp] theorem State.setLane_jobs (l : LaneId) (x : Lane) : (s.setLane l x).jobs = s.jobs := rfl
@[simp] theorem State.setLane_store (l : LaneId) (x : Lane) : (s.setLane l x).store = s.store := rfl
@[simp] theorem State.setLane_bus (l : LaneId) (x : Lane) : (s.setLane l x).bus = s.bus := rfl
@[simp] theorem State.setLane_freeCount (l : LaneId) (x : Lane) : (s.setLane l x).freeCount = s.freeCount := rfl
@[simp] theorem State.setLane_pending (l : LaneId) (x : Lane) : (s.setLane l x).pending = s.pending := rfl

/-! ### modEngine -/

@[simp] theorem State.modEngine_seconds (e : EngineId) (f : Engine → Engine) : (s.modEngine e f).seconds = s.seconds := rfl
@[simp] theorem State.modEngine_millis (e : EngineId) (f : Engine → Engine) : (s.modEngine e f).millis = s.millis := rfl
@[simp] theorem State.modEngine_micros (e : EngineId) (f : Engine → Engine) : (s.modEngine e f).micros = s.micros := rfl
@[simp] theorem State.modEngine_pins (e : EngineId) (f : Engine → Engine) : (s.modEngine e f).pins = s.pins := rfl
@[simp] theorem State.modEngine_straps (e : EngineId) (f : Engine → Engine) : (s.modEngine e f).straps = s.straps := rfl
@[simp] theorem State.modEngine_link (e : EngineId) (f : Engine → Engine) : (s.modEngine e f).link = s.link := rfl
@[simp] theorem State.modEngine_ports (e : EngineId) (f : Engine → Engine) : (s.modEngine e f).ports = s.ports := rfl
@[simp] theorem State.modEngine_profiles (e : EngineId) (f : Engine → Engine) : (s.modEngine e f).profiles = s.profiles := rfl
@[simp] theorem State.modEngine_lanes (e : EngineId) (f : Engine → Engine) : (s.modEngine e f).lanes = s.lanes := rfl
@[simp] theorem State.modEngine_slots (e : EngineId) (f : Engine → Engine) : (s.modEngine e f).slots = s.slots := rfl
@[simp] theorem State.modEngine_admissions (e : EngineId) (f : Engine → Engine) : (s.modEngine e f).admissions = s.admissions := rfl
@[simp] theorem State.modEngine_taken (e : EngineId) (f : Engine → Engine) : (s.modEngine e f).taken = s.taken := rfl
@[simp] theorem State.modEngine_routes (e : EngineId) (f : Engine → Engine) : (s.modEngine e f).routes = s.routes := rfl
@[simp] theorem State.modEngine_reference (e : EngineId) (f : Engine → Engine) : (s.modEngine e f).reference = s.reference := rfl
@[simp] theorem State.modEngine_jobs (e : EngineId) (f : Engine → Engine) : (s.modEngine e f).jobs = s.jobs := rfl
@[simp] theorem State.modEngine_store (e : EngineId) (f : Engine → Engine) : (s.modEngine e f).store = s.store := rfl
@[simp] theorem State.modEngine_bus (e : EngineId) (f : Engine → Engine) : (s.modEngine e f).bus = s.bus := rfl
@[simp] theorem State.modEngine_freeCount (e : EngineId) (f : Engine → Engine) : (s.modEngine e f).freeCount = s.freeCount := rfl
@[simp] theorem State.modEngine_pending (e : EngineId) (f : Engine → Engine) : (s.modEngine e f).pending = s.pending := rfl

/-! ### setEngine -/

@[simp] theorem State.setEngine_seconds (e : EngineId) (c : Engine) : (s.setEngine e c).seconds = s.seconds := rfl
@[simp] theorem State.setEngine_millis (e : EngineId) (c : Engine) : (s.setEngine e c).millis = s.millis := rfl
@[simp] theorem State.setEngine_micros (e : EngineId) (c : Engine) : (s.setEngine e c).micros = s.micros := rfl
@[simp] theorem State.setEngine_pins (e : EngineId) (c : Engine) : (s.setEngine e c).pins = s.pins := rfl
@[simp] theorem State.setEngine_straps (e : EngineId) (c : Engine) : (s.setEngine e c).straps = s.straps := rfl
@[simp] theorem State.setEngine_link (e : EngineId) (c : Engine) : (s.setEngine e c).link = s.link := rfl
@[simp] theorem State.setEngine_ports (e : EngineId) (c : Engine) : (s.setEngine e c).ports = s.ports := rfl
@[simp] theorem State.setEngine_profiles (e : EngineId) (c : Engine) : (s.setEngine e c).profiles = s.profiles := rfl
@[simp] theorem State.setEngine_lanes (e : EngineId) (c : Engine) : (s.setEngine e c).lanes = s.lanes := rfl
@[simp] theorem State.setEngine_slots (e : EngineId) (c : Engine) : (s.setEngine e c).slots = s.slots := rfl
@[simp] theorem State.setEngine_admissions (e : EngineId) (c : Engine) : (s.setEngine e c).admissions = s.admissions := rfl
@[simp] theorem State.setEngine_taken (e : EngineId) (c : Engine) : (s.setEngine e c).taken = s.taken := rfl
@[simp] theorem State.setEngine_routes (e : EngineId) (c : Engine) : (s.setEngine e c).routes = s.routes := rfl
@[simp] theorem State.setEngine_reference (e : EngineId) (c : Engine) : (s.setEngine e c).reference = s.reference := rfl
@[simp] theorem State.setEngine_jobs (e : EngineId) (c : Engine) : (s.setEngine e c).jobs = s.jobs := rfl
@[simp] theorem State.setEngine_store (e : EngineId) (c : Engine) : (s.setEngine e c).store = s.store := rfl
@[simp] theorem State.setEngine_bus (e : EngineId) (c : Engine) : (s.setEngine e c).bus = s.bus := rfl
@[simp] theorem State.setEngine_freeCount (e : EngineId) (c : Engine) : (s.setEngine e c).freeCount = s.freeCount := rfl
@[simp] theorem State.setEngine_pending (e : EngineId) (c : Engine) : (s.setEngine e c).pending = s.pending := rfl

/-! ### setSlot -/

@[simp] theorem State.setSlot_seconds (i : SlotId) (x : Option Slot) : (s.setSlot i x).seconds = s.seconds := rfl
@[simp] theorem State.setSlot_millis (i : SlotId) (x : Option Slot) : (s.setSlot i x).millis = s.millis := rfl
@[simp] theorem State.setSlot_micros (i : SlotId) (x : Option Slot) : (s.setSlot i x).micros = s.micros := rfl
@[simp] theorem State.setSlot_pins (i : SlotId) (x : Option Slot) : (s.setSlot i x).pins = s.pins := rfl
@[simp] theorem State.setSlot_straps (i : SlotId) (x : Option Slot) : (s.setSlot i x).straps = s.straps := rfl
@[simp] theorem State.setSlot_link (i : SlotId) (x : Option Slot) : (s.setSlot i x).link = s.link := rfl
@[simp] theorem State.setSlot_ports (i : SlotId) (x : Option Slot) : (s.setSlot i x).ports = s.ports := rfl
@[simp] theorem State.setSlot_profiles (i : SlotId) (x : Option Slot) : (s.setSlot i x).profiles = s.profiles := rfl
@[simp] theorem State.setSlot_lanes (i : SlotId) (x : Option Slot) : (s.setSlot i x).lanes = s.lanes := rfl
@[simp] theorem State.setSlot_admissions (i : SlotId) (x : Option Slot) : (s.setSlot i x).admissions = s.admissions := rfl
@[simp] theorem State.setSlot_taken (i : SlotId) (x : Option Slot) : (s.setSlot i x).taken = s.taken := rfl
@[simp] theorem State.setSlot_engines (i : SlotId) (x : Option Slot) : (s.setSlot i x).engines = s.engines := rfl
@[simp] theorem State.setSlot_routes (i : SlotId) (x : Option Slot) : (s.setSlot i x).routes = s.routes := rfl
@[simp] theorem State.setSlot_reference (i : SlotId) (x : Option Slot) : (s.setSlot i x).reference = s.reference := rfl
@[simp] theorem State.setSlot_jobs (i : SlotId) (x : Option Slot) : (s.setSlot i x).jobs = s.jobs := rfl
@[simp] theorem State.setSlot_store (i : SlotId) (x : Option Slot) : (s.setSlot i x).store = s.store := rfl
@[simp] theorem State.setSlot_bus (i : SlotId) (x : Option Slot) : (s.setSlot i x).bus = s.bus := rfl
@[simp] theorem State.setSlot_freeCount (i : SlotId) (x : Option Slot) : (s.setSlot i x).freeCount = s.freeCount := rfl
@[simp] theorem State.setSlot_pending (i : SlotId) (x : Option Slot) : (s.setSlot i x).pending = s.pending := rfl

/-! ### setRoute -/

@[simp] theorem State.setRoute_seconds (p : PortId) (r : Route) : (s.setRoute p r).seconds = s.seconds := rfl
@[simp] theorem State.setRoute_millis (p : PortId) (r : Route) : (s.setRoute p r).millis = s.millis := rfl
@[simp] theorem State.setRoute_micros (p : PortId) (r : Route) : (s.setRoute p r).micros = s.micros := rfl
@[simp] theorem State.setRoute_pins (p : PortId) (r : Route) : (s.setRoute p r).pins = s.pins := rfl
@[simp] theorem State.setRoute_straps (p : PortId) (r : Route) : (s.setRoute p r).straps = s.straps := rfl
@[simp] theorem State.setRoute_link (p : PortId) (r : Route) : (s.setRoute p r).link = s.link := rfl
@[simp] theorem State.setRoute_ports (p : PortId) (r : Route) : (s.setRoute p r).ports = s.ports := rfl
@[simp] theorem State.setRoute_profiles (p : PortId) (r : Route) : (s.setRoute p r).profiles = s.profiles := rfl
@[simp] theorem State.setRoute_lanes (p : PortId) (r : Route) : (s.setRoute p r).lanes = s.lanes := rfl
@[simp] theorem State.setRoute_slots (p : PortId) (r : Route) : (s.setRoute p r).slots = s.slots := rfl
@[simp] theorem State.setRoute_admissions (p : PortId) (r : Route) : (s.setRoute p r).admissions = s.admissions := rfl
@[simp] theorem State.setRoute_taken (p : PortId) (r : Route) : (s.setRoute p r).taken = s.taken := rfl
@[simp] theorem State.setRoute_engines (p : PortId) (r : Route) : (s.setRoute p r).engines = s.engines := rfl
@[simp] theorem State.setRoute_reference (p : PortId) (r : Route) : (s.setRoute p r).reference = s.reference := rfl
@[simp] theorem State.setRoute_jobs (p : PortId) (r : Route) : (s.setRoute p r).jobs = s.jobs := rfl
@[simp] theorem State.setRoute_store (p : PortId) (r : Route) : (s.setRoute p r).store = s.store := rfl
@[simp] theorem State.setRoute_bus (p : PortId) (r : Route) : (s.setRoute p r).bus = s.bus := rfl
@[simp] theorem State.setRoute_freeCount (p : PortId) (r : Route) : (s.setRoute p r).freeCount = s.freeCount := rfl
@[simp] theorem State.setRoute_pending (p : PortId) (r : Route) : (s.setRoute p r).pending = s.pending := rfl

/-! ### setJob -/

@[simp] theorem State.setJob_seconds (e : EngineId) (x : Option Job) : (s.setJob e x).seconds = s.seconds := rfl
@[simp] theorem State.setJob_millis (e : EngineId) (x : Option Job) : (s.setJob e x).millis = s.millis := rfl
@[simp] theorem State.setJob_micros (e : EngineId) (x : Option Job) : (s.setJob e x).micros = s.micros := rfl
@[simp] theorem State.setJob_pins (e : EngineId) (x : Option Job) : (s.setJob e x).pins = s.pins := rfl
@[simp] theorem State.setJob_straps (e : EngineId) (x : Option Job) : (s.setJob e x).straps = s.straps := rfl
@[simp] theorem State.setJob_link (e : EngineId) (x : Option Job) : (s.setJob e x).link = s.link := rfl
@[simp] theorem State.setJob_ports (e : EngineId) (x : Option Job) : (s.setJob e x).ports = s.ports := rfl
@[simp] theorem State.setJob_profiles (e : EngineId) (x : Option Job) : (s.setJob e x).profiles = s.profiles := rfl
@[simp] theorem State.setJob_lanes (e : EngineId) (x : Option Job) : (s.setJob e x).lanes = s.lanes := rfl
@[simp] theorem State.setJob_slots (e : EngineId) (x : Option Job) : (s.setJob e x).slots = s.slots := rfl
@[simp] theorem State.setJob_admissions (e : EngineId) (x : Option Job) : (s.setJob e x).admissions = s.admissions := rfl
@[simp] theorem State.setJob_taken (e : EngineId) (x : Option Job) : (s.setJob e x).taken = s.taken := rfl
@[simp] theorem State.setJob_engines (e : EngineId) (x : Option Job) : (s.setJob e x).engines = s.engines := rfl
@[simp] theorem State.setJob_routes (e : EngineId) (x : Option Job) : (s.setJob e x).routes = s.routes := rfl
@[simp] theorem State.setJob_reference (e : EngineId) (x : Option Job) : (s.setJob e x).reference = s.reference := rfl
@[simp] theorem State.setJob_store (e : EngineId) (x : Option Job) : (s.setJob e x).store = s.store := rfl
@[simp] theorem State.setJob_bus (e : EngineId) (x : Option Job) : (s.setJob e x).bus = s.bus := rfl
@[simp] theorem State.setJob_freeCount (e : EngineId) (x : Option Job) : (s.setJob e x).freeCount = s.freeCount := rfl
@[simp] theorem State.setJob_pending (e : EngineId) (x : Option Job) : (s.setJob e x).pending = s.pending := rfl

/-! ### setTrace -/

@[simp] theorem State.setTrace_seconds (j : TraceId) (x : Option TraceSet) : (s.setTrace j x).seconds = s.seconds := rfl
@[simp] theorem State.setTrace_millis (j : TraceId) (x : Option TraceSet) : (s.setTrace j x).millis = s.millis := rfl
@[simp] theorem State.setTrace_micros (j : TraceId) (x : Option TraceSet) : (s.setTrace j x).micros = s.micros := rfl
@[simp] theorem State.setTrace_pins (j : TraceId) (x : Option TraceSet) : (s.setTrace j x).pins = s.pins := rfl
@[simp] theorem State.setTrace_straps (j : TraceId) (x : Option TraceSet) : (s.setTrace j x).straps = s.straps := rfl
@[simp] theorem State.setTrace_link (j : TraceId) (x : Option TraceSet) : (s.setTrace j x).link = s.link := rfl
@[simp] theorem State.setTrace_ports (j : TraceId) (x : Option TraceSet) : (s.setTrace j x).ports = s.ports := rfl
@[simp] theorem State.setTrace_profiles (j : TraceId) (x : Option TraceSet) : (s.setTrace j x).profiles = s.profiles := rfl
@[simp] theorem State.setTrace_lanes (j : TraceId) (x : Option TraceSet) : (s.setTrace j x).lanes = s.lanes := rfl
@[simp] theorem State.setTrace_slots (j : TraceId) (x : Option TraceSet) : (s.setTrace j x).slots = s.slots := rfl
@[simp] theorem State.setTrace_admissions (j : TraceId) (x : Option TraceSet) : (s.setTrace j x).admissions = s.admissions := rfl
@[simp] theorem State.setTrace_taken (j : TraceId) (x : Option TraceSet) : (s.setTrace j x).taken = s.taken := rfl
@[simp] theorem State.setTrace_engines (j : TraceId) (x : Option TraceSet) : (s.setTrace j x).engines = s.engines := rfl
@[simp] theorem State.setTrace_routes (j : TraceId) (x : Option TraceSet) : (s.setTrace j x).routes = s.routes := rfl
@[simp] theorem State.setTrace_reference (j : TraceId) (x : Option TraceSet) : (s.setTrace j x).reference = s.reference := rfl
@[simp] theorem State.setTrace_jobs (j : TraceId) (x : Option TraceSet) : (s.setTrace j x).jobs = s.jobs := rfl
@[simp] theorem State.setTrace_bus (j : TraceId) (x : Option TraceSet) : (s.setTrace j x).bus = s.bus := rfl
@[simp] theorem State.setTrace_freeCount (j : TraceId) (x : Option TraceSet) : (s.setTrace j x).freeCount = s.freeCount := rfl
@[simp] theorem State.setTrace_pending (j : TraceId) (x : Option TraceSet) : (s.setTrace j x).pending = s.pending := rfl

/-! ### modLink -/

@[simp] theorem State.modLink_seconds (f : Link → Link) : (s.modLink f).seconds = s.seconds := rfl
@[simp] theorem State.modLink_millis (f : Link → Link) : (s.modLink f).millis = s.millis := rfl
@[simp] theorem State.modLink_micros (f : Link → Link) : (s.modLink f).micros = s.micros := rfl
@[simp] theorem State.modLink_pins (f : Link → Link) : (s.modLink f).pins = s.pins := rfl
@[simp] theorem State.modLink_straps (f : Link → Link) : (s.modLink f).straps = s.straps := rfl
@[simp] theorem State.modLink_ports (f : Link → Link) : (s.modLink f).ports = s.ports := rfl
@[simp] theorem State.modLink_profiles (f : Link → Link) : (s.modLink f).profiles = s.profiles := rfl
@[simp] theorem State.modLink_lanes (f : Link → Link) : (s.modLink f).lanes = s.lanes := rfl
@[simp] theorem State.modLink_slots (f : Link → Link) : (s.modLink f).slots = s.slots := rfl
@[simp] theorem State.modLink_admissions (f : Link → Link) : (s.modLink f).admissions = s.admissions := rfl
@[simp] theorem State.modLink_taken (f : Link → Link) : (s.modLink f).taken = s.taken := rfl
@[simp] theorem State.modLink_engines (f : Link → Link) : (s.modLink f).engines = s.engines := rfl
@[simp] theorem State.modLink_routes (f : Link → Link) : (s.modLink f).routes = s.routes := rfl
@[simp] theorem State.modLink_reference (f : Link → Link) : (s.modLink f).reference = s.reference := rfl
@[simp] theorem State.modLink_jobs (f : Link → Link) : (s.modLink f).jobs = s.jobs := rfl
@[simp] theorem State.modLink_store (f : Link → Link) : (s.modLink f).store = s.store := rfl
@[simp] theorem State.modLink_bus (f : Link → Link) : (s.modLink f).bus = s.bus := rfl
@[simp] theorem State.modLink_freeCount (f : Link → Link) : (s.modLink f).freeCount = s.freeCount := rfl
@[simp] theorem State.modLink_pending (f : Link → Link) : (s.modLink f).pending = s.pending := rfl

/-! ### modBus -/

@[simp] theorem State.modBus_seconds (f : Bus → Bus) : (s.modBus f).seconds = s.seconds := rfl
@[simp] theorem State.modBus_millis (f : Bus → Bus) : (s.modBus f).millis = s.millis := rfl
@[simp] theorem State.modBus_micros (f : Bus → Bus) : (s.modBus f).micros = s.micros := rfl
@[simp] theorem State.modBus_pins (f : Bus → Bus) : (s.modBus f).pins = s.pins := rfl
@[simp] theorem State.modBus_straps (f : Bus → Bus) : (s.modBus f).straps = s.straps := rfl
@[simp] theorem State.modBus_link (f : Bus → Bus) : (s.modBus f).link = s.link := rfl
@[simp] theorem State.modBus_ports (f : Bus → Bus) : (s.modBus f).ports = s.ports := rfl
@[simp] theorem State.modBus_profiles (f : Bus → Bus) : (s.modBus f).profiles = s.profiles := rfl
@[simp] theorem State.modBus_lanes (f : Bus → Bus) : (s.modBus f).lanes = s.lanes := rfl
@[simp] theorem State.modBus_slots (f : Bus → Bus) : (s.modBus f).slots = s.slots := rfl
@[simp] theorem State.modBus_admissions (f : Bus → Bus) : (s.modBus f).admissions = s.admissions := rfl
@[simp] theorem State.modBus_taken (f : Bus → Bus) : (s.modBus f).taken = s.taken := rfl
@[simp] theorem State.modBus_engines (f : Bus → Bus) : (s.modBus f).engines = s.engines := rfl
@[simp] theorem State.modBus_routes (f : Bus → Bus) : (s.modBus f).routes = s.routes := rfl
@[simp] theorem State.modBus_reference (f : Bus → Bus) : (s.modBus f).reference = s.reference := rfl
@[simp] theorem State.modBus_jobs (f : Bus → Bus) : (s.modBus f).jobs = s.jobs := rfl
@[simp] theorem State.modBus_store (f : Bus → Bus) : (s.modBus f).store = s.store := rfl
@[simp] theorem State.modBus_freeCount (f : Bus → Bus) : (s.modBus f).freeCount = s.freeCount := rfl
@[simp] theorem State.modBus_pending (f : Bus → Bus) : (s.modBus f).pending = s.pending := rfl

/-! ### setBus -/

@[simp] theorem State.setBus_seconds (b : Bus) : (s.setBus b).seconds = s.seconds := rfl
@[simp] theorem State.setBus_millis (b : Bus) : (s.setBus b).millis = s.millis := rfl
@[simp] theorem State.setBus_micros (b : Bus) : (s.setBus b).micros = s.micros := rfl
@[simp] theorem State.setBus_pins (b : Bus) : (s.setBus b).pins = s.pins := rfl
@[simp] theorem State.setBus_straps (b : Bus) : (s.setBus b).straps = s.straps := rfl
@[simp] theorem State.setBus_link (b : Bus) : (s.setBus b).link = s.link := rfl
@[simp] theorem State.setBus_ports (b : Bus) : (s.setBus b).ports = s.ports := rfl
@[simp] theorem State.setBus_profiles (b : Bus) : (s.setBus b).profiles = s.profiles := rfl
@[simp] theorem State.setBus_lanes (b : Bus) : (s.setBus b).lanes = s.lanes := rfl
@[simp] theorem State.setBus_slots (b : Bus) : (s.setBus b).slots = s.slots := rfl
@[simp] theorem State.setBus_admissions (b : Bus) : (s.setBus b).admissions = s.admissions := rfl
@[simp] theorem State.setBus_taken (b : Bus) : (s.setBus b).taken = s.taken := rfl
@[simp] theorem State.setBus_engines (b : Bus) : (s.setBus b).engines = s.engines := rfl
@[simp] theorem State.setBus_routes (b : Bus) : (s.setBus b).routes = s.routes := rfl
@[simp] theorem State.setBus_reference (b : Bus) : (s.setBus b).reference = s.reference := rfl
@[simp] theorem State.setBus_jobs (b : Bus) : (s.setBus b).jobs = s.jobs := rfl
@[simp] theorem State.setBus_store (b : Bus) : (s.setBus b).store = s.store := rfl
@[simp] theorem State.setBus_freeCount (b : Bus) : (s.setBus b).freeCount = s.freeCount := rfl
@[simp] theorem State.setBus_pending (b : Bus) : (s.setBus b).pending = s.pending := rfl

/-! ### accepted -/

@[simp] theorem State.accepted_seconds : (s.accepted).seconds = s.seconds := rfl
@[simp] theorem State.accepted_millis : (s.accepted).millis = s.millis := rfl
@[simp] theorem State.accepted_micros : (s.accepted).micros = s.micros := rfl
@[simp] theorem State.accepted_pins : (s.accepted).pins = s.pins := rfl
@[simp] theorem State.accepted_straps : (s.accepted).straps = s.straps := rfl
@[simp] theorem State.accepted_ports : (s.accepted).ports = s.ports := rfl
@[simp] theorem State.accepted_profiles : (s.accepted).profiles = s.profiles := rfl
@[simp] theorem State.accepted_lanes : (s.accepted).lanes = s.lanes := rfl
@[simp] theorem State.accepted_slots : (s.accepted).slots = s.slots := rfl
@[simp] theorem State.accepted_admissions : (s.accepted).admissions = s.admissions := rfl
@[simp] theorem State.accepted_taken : (s.accepted).taken = s.taken := rfl
@[simp] theorem State.accepted_engines : (s.accepted).engines = s.engines := rfl
@[simp] theorem State.accepted_routes : (s.accepted).routes = s.routes := rfl
@[simp] theorem State.accepted_reference : (s.accepted).reference = s.reference := rfl
@[simp] theorem State.accepted_jobs : (s.accepted).jobs = s.jobs := rfl
@[simp] theorem State.accepted_store : (s.accepted).store = s.store := rfl
@[simp] theorem State.accepted_bus : (s.accepted).bus = s.bus := rfl
@[simp] theorem State.accepted_freeCount : (s.accepted).freeCount = s.freeCount := rfl
@[simp] theorem State.accepted_pending : (s.accepted).pending = s.pending := rfl

/-! ### countAdmission -/

@[simp] theorem State.countAdmission_seconds : (s.countAdmission).seconds = s.seconds := rfl
@[simp] theorem State.countAdmission_millis : (s.countAdmission).millis = s.millis := rfl
@[simp] theorem State.countAdmission_micros : (s.countAdmission).micros = s.micros := rfl
@[simp] theorem State.countAdmission_pins : (s.countAdmission).pins = s.pins := rfl
@[simp] theorem State.countAdmission_straps : (s.countAdmission).straps = s.straps := rfl
@[simp] theorem State.countAdmission_link : (s.countAdmission).link = s.link := rfl
@[simp] theorem State.countAdmission_ports : (s.countAdmission).ports = s.ports := rfl
@[simp] theorem State.countAdmission_profiles : (s.countAdmission).profiles = s.profiles := rfl
@[simp] theorem State.countAdmission_lanes : (s.countAdmission).lanes = s.lanes := rfl
@[simp] theorem State.countAdmission_slots : (s.countAdmission).slots = s.slots := rfl
@[simp] theorem State.countAdmission_engines : (s.countAdmission).engines = s.engines := rfl
@[simp] theorem State.countAdmission_routes : (s.countAdmission).routes = s.routes := rfl
@[simp] theorem State.countAdmission_reference : (s.countAdmission).reference = s.reference := rfl
@[simp] theorem State.countAdmission_jobs : (s.countAdmission).jobs = s.jobs := rfl
@[simp] theorem State.countAdmission_store : (s.countAdmission).store = s.store := rfl
@[simp] theorem State.countAdmission_bus : (s.countAdmission).bus = s.bus := rfl
@[simp] theorem State.countAdmission_freeCount : (s.countAdmission).freeCount = s.freeCount := rfl
@[simp] theorem State.countAdmission_pending : (s.countAdmission).pending = s.pending := rfl

/-! ### What an update sets, and the entries it leaves -/

@[simp] theorem State.port_setPort (p : PortId) (c : PortCtx) : (s.setPort p c).port p = c := by
  simp [State.port, State.setPort]

theorem State.port_setPort_ne (c : PortCtx) {p q : PortId} (h : q ≠ p) : (s.setPort p c).port q = s.port q := by
  have : p.val ≠ q.val := fun e => h (Fin.ext e.symm)
  simp [State.port, State.setPort, Vector.getElem_set_ne, this]

@[simp] theorem State.port_modPort (p : PortId) (f : PortCtx → PortCtx) : (s.modPort p f).port p = f (s.port p) := by
  simp [State.port, State.modPort]

theorem State.port_modPort_ne (f : PortCtx → PortCtx) {p q : PortId} (h : q ≠ p) : (s.modPort p f).port q = s.port q := by
  have : p.val ≠ q.val := fun e => h (Fin.ext e.symm)
  simp [State.port, State.modPort, Vector.getElem_set_ne, this]

/-- An update in place is a replacement by the updated context. -/
theorem State.modPort_eq_setPort (p : PortId) (f : PortCtx → PortCtx) : s.modPort p f = s.setPort p (f (s.port p)) := rfl

@[simp] theorem State.setPort_setPort (p : PortId) (c d : PortCtx) : (s.setPort p c).setPort p d = s.setPort p d := by
  simp [State.setPort]

@[simp] theorem State.lane_setLane (l : LaneId) (x : Lane) : (s.setLane l x).lane l = x := by
  simp [State.lane, State.setLane]

theorem State.lane_setLane_ne (x : Lane) {l m : LaneId} (h : m ≠ l) : (s.setLane l x).lane m = s.lane m := by
  have : l.val ≠ m.val := fun e => h (Fin.ext e.symm)
  simp [State.lane, State.setLane, Vector.getElem_set_ne, this]

theorem State.modLane_eq_setLane (l : LaneId) (f : Lane → Lane) : s.modLane l f = s.setLane l (f (s.lane l)) := rfl

@[simp] theorem State.setLane_setLane (l : LaneId) (x y : Lane) : (s.setLane l x).setLane l y = s.setLane l y := by
  simp [State.setLane]

@[simp] theorem State.engine_setEngine (e : EngineId) (c : Engine) : (s.setEngine e c).engine e = c := by
  simp [State.engine, State.setEngine]

theorem State.engine_setEngine_ne (c : Engine) {e f : EngineId} (h : f ≠ e) :
    (s.setEngine e c).engine f = s.engine f := by
  have : e.val ≠ f.val := fun x => h (Fin.ext x.symm)
  simp [State.engine, State.setEngine, Vector.getElem_set_ne, this]

theorem State.modEngine_eq_setEngine (e : EngineId) (f : Engine → Engine) :
    s.modEngine e f = s.setEngine e (f (s.engine e)) := rfl

@[simp] theorem State.setEngine_setEngine (e : EngineId) (c d : Engine) :
    (s.setEngine e c).setEngine e d = s.setEngine e d := by
  simp [State.setEngine]

@[simp] theorem State.slot_setSlot (i : SlotId) (x : Option Slot) : (s.setSlot i x).slot i = x := by
  simp [State.slot, State.setSlot]

theorem State.slot_setSlot_ne (x : Option Slot) {i j : SlotId} (h : j ≠ i) : (s.setSlot i x).slot j = s.slot j := by
  have : i.val ≠ j.val := fun e => h (Fin.ext e.symm)
  simp [State.slot, State.setSlot, Vector.getElem_set_ne, this]

@[simp] theorem State.setSlot_setSlot (i : SlotId) (x y : Option Slot) : (s.setSlot i x).setSlot i y = s.setSlot i y := by
  simp [State.setSlot]

@[simp] theorem State.route_setRoute (p : PortId) (r : Route) : (s.setRoute p r).route p = r := by
  simp [State.route, State.setRoute]

theorem State.route_setRoute_ne (r : Route) {p q : PortId} (h : q ≠ p) : (s.setRoute p r).route q = s.route q := by
  have : p.val ≠ q.val := fun e => h (Fin.ext e.symm)
  simp [State.route, State.setRoute, Vector.getElem_set_ne, this]

@[simp] theorem State.job_setJob (e : EngineId) (x : Option Job) : (s.setJob e x).job e = x := by
  simp [State.job, State.setJob]

theorem State.job_setJob_ne (x : Option Job) {e f : EngineId} (h : f ≠ e) : (s.setJob e x).job f = s.job f := by
  have : e.val ≠ f.val := fun z => h (Fin.ext z.symm)
  simp [State.job, State.setJob, Vector.getElem_set_ne, this]

@[simp] theorem State.link_modLink (f : Link → Link) : (s.modLink f).link = f s.link := rfl

@[simp] theorem State.bus_modBus (f : Bus → Bus) : (s.modBus f).bus = f s.bus := rfl

@[simp] theorem State.bus_setBus (b : Bus) : (s.setBus b).bus = b := rfl

theorem State.modBus_eq_setBus (f : Bus → Bus) : s.modBus f = s.setBus (f s.bus) := rfl

/-! ### Readers of a table whose field is unchanged -/

/-- Each reader looks at its own table alone. -/
theorem State.port_congr {s t : State} (h : t.ports = s.ports) (p : PortId) : t.port p = s.port p := by
  simp [State.port, h]

theorem State.lane_congr {s t : State} (h : t.lanes = s.lanes) (l : LaneId) : t.lane l = s.lane l := by
  simp [State.lane, h]

theorem State.engine_congr {s t : State} (h : t.engines = s.engines) (e : EngineId) : t.engine e = s.engine e := by
  simp [State.engine, h]

theorem State.slot_congr {s t : State} (h : t.slots = s.slots) (i : SlotId) : t.slot i = s.slot i := by
  simp [State.slot, h]

theorem State.route_congr {s t : State} (h : t.routes = s.routes) (p : PortId) : t.route p = s.route p := by
  simp [State.route, h]

theorem State.record_congr {s t : State} (h : t.store = s.store) (p : PortId) : t.record p = s.record p := by
  simp [State.record, h]

/-! ### Tables by rate and by pair -/

@[simp] theorem PerRate.get_set {α : Type} (t : PerRate α) (r : Rate) (x : α) : (t.set r x).get r = x := by
  cases r <;> rfl

theorem PerRate.get_set_ne {α : Type} (t : PerRate α) (x : α) {r q : Rate} (h : q ≠ r) : (t.set r x).get q = t.get q := by
  cases r <;> cases q <;> first | rfl | exact absurd rfl h

@[simp] theorem PerRate.get_all {α : Type} (x : α) (r : Rate) : (PerRate.all x).get r = x := by cases r <;> rfl

@[simp] theorem PerRate.get_map {α β : Type} (f : α → β) (t : PerRate α) (r : Rate) : (t.map f).get r = f (t.get r) := by
  cases r <;> rfl

@[simp] theorem PerPair.get_all {α : Type} (x : α) (p : Pair) : (PerPair.all x).get p = x := by cases p <;> rfl

@[simp] theorem PerPair.get_ofFn {α : Type} (f : Pair → α) (p : Pair) : (PerPair.ofFn f).get p = f p := by
  cases p <;> rfl

@[simp] theorem PerPair.get_map {α β : Type} (f : α → β) (t : PerPair α) (p : Pair) : (t.map f).get p = f (t.get p) := by
  cases p <;> rfl

@[simp] theorem getElem_mapVec {α β : Type} {n : Nat} (f : α → β) (v : Vector α n) (i : Nat) (h : i < n) :
    (mapVec f v)[i] = f v[i] := by
  simp [mapVec]

@[simp] theorem getElem_zipVec {α β γ : Type} {n : Nat} (f : α → β → γ) (v : Vector α n) (w : Vector β n) (i : Nat)
    (h : i < n) : (zipVec f v w)[i] = f v[i] w[i] := by
  simp [zipVec]

end Sys2Proof.Machine
end

