-- ==== Sys2Proof/Laws/Ops.lean ====
section
/-! SUPPORT. For each shared operation a lemma that says once what it can do: the passing of time, the transmitter and
the notice queue, lane commands, the port entries, the outbound queue, the attempts. -/

namespace Sys2Proof.Machine

/-! ### Time -/

theorem State.elapse_zero (s : State) : s.elapse 0 = s := rfl

/-- No time passes for a millisecond timer that has run out. -/
theorem State.runOutMs_zero (s : State) : s.runOutMs 0 = s := rfl

/-- What the passing of time leaves as it was. -/
theorem State.elapse_keeps (s : State) (us : Nat) :
    (s.elapse us).pins = s.pins ∧ (s.elapse us).straps = s.straps ∧ (s.elapse us).profiles = s.profiles
      ∧ (s.elapse us).admissions = s.admissions ∧ (s.elapse us).taken = s.taken ∧ (s.elapse us).routes = s.routes
      ∧ (s.elapse us).jobs = s.jobs ∧ (s.elapse us).store.records = s.store.records
      ∧ (s.elapse us).store.counter = s.store.counter ∧ (s.elapse us).store.order = s.store.order
      ∧ (s.elapse us).freeCount = s.freeCount ∧ (s.elapse us).pending = s.pending := by
  unfold State.elapse
  split <;> exact ⟨rfl, rfl, rfl, rfl, rfl, rfl, rfl, rfl, rfl, rfl, rfl, rfl⟩

@[simp] theorem State.elapse_pending (s : State) (us : Nat) : (s.elapse us).pending = s.pending := by
  unfold State.elapse
  split <;> rfl

@[simp] theorem State.runOutMs_pending (s : State) (n : Nat) : (s.runOutMs n).pending = s.pending := by
  unfold State.runOutMs
  split
  · rfl
  · exact s.elapse_pending _

@[simp] theorem State.runOutUs_pending (s : State) (n : Nat) : (s.runOutUs n).pending = s.pending := s.elapse_pending n

/-- What the passing of time does to a port: its five timers run, nothing else changes. -/
theorem State.port_elapse (s : State) (us : Nat) (p : PortId) :
    (s.elapse us).port p = (s.port p).after (if us = 0 then 0 else (s.micros + us) / 1000) := by
  unfold State.elapse
  split
  · simp [State.port, PortCtx.after, Timer.after]
  · simp [State.port]

/-- What the passing of time does to an engine. -/
theorem State.engine_elapse (s : State) (us : Nat) (e : EngineId) (h : us ≠ 0) :
    (s.elapse us).engine e = (s.engine e).after ((s.micros + us) / 1000) us := by
  simp [State.elapse, State.engine, h]

/-- What the passing of time does to a slot. -/
theorem State.slot_elapse (s : State) (us : Nat) (i : SlotId) (h : us ≠ 0) :
    (s.elapse us).slot i =
      (s.slot i).map fun x => { x with holdTimer := x.holdTimer.after ((s.micros + us) / 1000) } := by
  simp [State.elapse, State.slot, h]

/-! ### The transmitter and the notice queue -/

/-- Two states that differ in the link alone. -/
def State.sameButLink (s t : State) : Prop := t = { s with link := t.link }

theorem State.sameButLink.refl (s : State) : s.sameButLink s := rfl

theorem State.sameButLink.trans {s t u : State} (h : s.sameButLink t) (k : t.sameButLink u) : s.sameButLink u := by
  unfold State.sameButLink at *
  rw [k, h]

theorem State.modLink_sameButLink (s : State) (f : Link → Link) : s.sameButLink (s.modLink f) := rfl

/-- The arbiter of R194 touches the link alone, and there what the transmitter and its two queues hold. -/
theorem State.arbitrate_eq (s : State) : s.arbitrate = { s with link := s.link.afterFrame } := by
  unfold State.arbitrate Link.afterFrame State.modLink
  cases hw : s.link.waiting <;> cases hn : s.link.notices <;> simp [hw, hn]

theorem State.startIfIdle_eq (s : State) :
    s.startIfIdle = if s.link.ready = true ∧ s.link.transmitter = .idle then { s with link := s.link.afterFrame } else s := by
  unfold State.startIfIdle
  rw [State.arbitrate_eq]

theorem State.startIfIdle_sameButLink (s : State) : s.sameButLink s.startIfIdle := by
  rw [State.startIfIdle_eq]
  split <;> rfl

theorem State.queueNotice_sameButLink (s : State) (n : Notice) : s.sameButLink (s.queueNotice n) := by
  unfold State.queueNotice
  split
  · split
    · rfl
    · exact (State.modLink_sameButLink s _).trans (State.startIfIdle_sameButLink _)
  · rfl

theorem State.placeReply_sameButLink (s : State) (r : Reply) : s.sameButLink (s.placeReply r) :=
  (State.modLink_sameButLink s _).trans (State.startIfIdle_sameButLink _)

/-- A frame chosen for transmission leaves readiness, the receiver, the receive buffer, the mask and the counters. -/
theorem Link.afterFrame_keeps (k : Link) :
    k.afterFrame.ready = k.ready ∧ k.afterFrame.receiver = k.receiver ∧ k.afterFrame.gap = k.gap
      ∧ k.afterFrame.buffer = k.buffer ∧ k.afterFrame.mask = k.mask ∧ k.afterFrame.counters = k.counters := by
  unfold Link.afterFrame
  cases k.waiting <;> cases k.notices <;> simp

@[simp] theorem State.queueNotice_pending (s : State) (n : Notice) : (s.queueNotice n).pending = s.pending := by
  rw [s.queueNotice_sameButLink n]

@[simp] theorem State.queueNotice_ports (s : State) (n : Notice) : (s.queueNotice n).ports = s.ports := by
  rw [s.queueNotice_sameButLink n]

@[simp] theorem State.queueNotice_lanes (s : State) (n : Notice) : (s.queueNotice n).lanes = s.lanes := by
  rw [s.queueNotice_sameButLink n]

@[simp] theorem State.queueNotice_slots (s : State) (n : Notice) : (s.queueNotice n).slots = s.slots := by
  rw [s.queueNotice_sameButLink n]

@[simp] theorem State.queueNotice_engines (s : State) (n : Notice) : (s.queueNotice n).engines = s.engines := by
  rw [s.queueNotice_sameButLink n]

@[simp] theorem State.queueNotice_routes (s : State) (n : Notice) : (s.queueNotice n).routes = s.routes := by
  rw [s.queueNotice_sameButLink n]

@[simp] theorem State.queueNotice_bus (s : State) (n : Notice) : (s.queueNotice n).bus = s.bus := by
  rw [s.queueNotice_sameButLink n]

@[simp] theorem State.queueNotice_store (s : State) (n : Notice) : (s.queueNotice n).store = s.store := by
  rw [s.queueNotice_sameButLink n]

@[simp] theorem State.queueNotice_reference (s : State) (n : Notice) : (s.queueNotice n).reference = s.reference := by
  rw [s.queueNotice_sameButLink n]

@[simp] theorem State.queueNotice_profiles (s : State) (n : Notice) : (s.queueNotice n).profiles = s.profiles := by
  rw [s.queueNotice_sameButLink n]

@[simp] theorem State.placeReply_pending (s : State) (r : Reply) : (s.placeReply r).pending = s.pending := by
  rw [s.placeReply_sameButLink r]

/-! ### Lane commands and port transitions -/

/-- A lane command goes out as its word on an UP lane and is lost on a DOWN one (R34, R206). -/
theorem State.sendLane_eq (s : State) (p : PortId) (c : LaneCommand) :
    s.sendLane p c = if (s.lane (laneOf p)).up = true then
      s.setLane (laneOf p) { s.lane (laneOf p) with sent := (s.lane (laneOf p)).sent ++ [c.word (localOf p)] } else s := by
  unfold State.sendLane
  split
  · simp_all [State.modLane, State.setLane, State.lane]
  · simp_all [State.modLane, State.lane]

@[simp] theorem State.sendLane_ports (s : State) (p : PortId) (c : LaneCommand) : (s.sendLane p c).ports = s.ports := rfl

@[simp] theorem State.sendLane_link (s : State) (p : PortId) (c : LaneCommand) : (s.sendLane p c).link = s.link := rfl

@[simp] theorem State.sendLane_slots (s : State) (p : PortId) (c : LaneCommand) : (s.sendLane p c).slots = s.slots := rfl

@[simp] theorem State.sendLane_pending (s : State) (p : PortId) (c : LaneCommand) :
    (s.sendLane p c).pending = s.pending := rfl

/-- A transition changes one port, and queues PORT_CHANGE exactly when its state changes (R32). -/
theorem State.movePort_eq (s : State) (p : PortId) (f : PortCtx → PortCtx) :
    s.movePort p f = if (f (s.port p)).state = (s.port p).state then s.setPort p (f (s.port p))
      else s.changeState p (f (s.port p)) := by
  unfold State.movePort State.changeState State.portChangeOf
  simp [State.modPort_eq_setPort]

@[simp] theorem State.port_changeState (s : State) (p : PortId) (c : PortCtx) : (s.changeState p c).port p = c := by
  unfold State.changeState
  rw [State.port_congr (State.queueNotice_ports _ _), State.port_setPort]

@[simp] theorem State.port_movePort (s : State) (p : PortId) (f : PortCtx → PortCtx) :
    (s.movePort p f).port p = f (s.port p) := by
  rw [State.movePort_eq]
  split <;> simp

theorem State.port_movePort_ne (s : State) (f : PortCtx → PortCtx) {p q : PortId} (h : q ≠ p) :
    (s.movePort p f).port q = s.port q := by
  rw [State.movePort_eq]
  split
  · exact s.port_setPort_ne _ h
  · unfold State.changeState
    rw [State.port_congr (State.queueNotice_ports _ _), s.port_setPort_ne _ h]

@[simp] theorem State.movePort_pending (s : State) (p : PortId) (f : PortCtx → PortCtx) :
    (s.movePort p f).pending = s.pending := by
  unfold State.movePort
  simp only []
  split <;> simp

/-! ### The policy latch -/

/-- Without a pending policy a latch does nothing. -/
theorem PortCtx.latch_of_none {c : PortCtx} (h : c.pendingPolicy = none) : c.latch = c := by
  simp [PortCtx.latch, h]

/-- A latch changes neither state nor admin, nor any timer but recheck (R68, R69). -/
theorem PortCtx.latch_keeps (c : PortCtx) :
    c.latch.state = c.state ∧ c.latch.admin = c.admin ∧ c.latch.cause = c.cause ∧ c.latch.attempt = c.attempt
      ∧ c.latch.glitch = c.glitch ∧ c.latch.window = c.window ∧ c.latch.holddown = c.holddown
      ∧ c.latch.power = c.power ∧ c.latch.holdOwned = c.holdOwned ∧ c.latch.returnInfo = c.returnInfo
      ∧ c.latch.samples = c.samples ∧ c.latch.awaiting = c.awaiting ∧ c.latch.exhausted = c.exhausted := by
  unfold PortCtx.latch
  split <;> simp

/-! ### The request handler -/

/-- What a request row does where the handler is free: it is handled at once (log entry 21). -/
theorem State.offerRequest_of_handlerFree {s : State} (h : s.handlerFree) (f : Frame) :
    s.offerRequest f = s.accepted.handle f := by
  obtain ⟨hr, hb, hw, hs⟩ := h
  have hk : (s.acceptFrame f).link.waiting = none ∧ (s.acceptFrame f).link.stopped = false
      ∧ (s.acceptFrame f).link.buffer = [f] := by
    simp only [State.acceptFrame, State.modLink, hb, List.length_nil]
    exact ⟨hw, hs, rfl⟩
  unfold State.offerRequest State.handlerTake
  rw [if_pos hr, if_pos hb, hk.2.2]
  simp only [hk.1, hk.2.1, and_self, if_true]
  simp only [State.acceptFrame, State.modLink, hb, List.length_nil, State.accepted]
  rw [← hb]
  rfl

/-! ### The outbound queue -/

/-- A POLL request changes the queue alone. -/
theorem Bus.requestPoll_keeps (b : Bus) (address : Nat) :
    (b.requestPoll address).map = b.map ∧ (b.requestPoll address).phase = b.phase
      ∧ (b.requestPoll address).inbound = b.inbound ∧ (b.requestPoll address).attempt = b.attempt
      ∧ (b.requestPoll address).slave = b.slave ∧ (b.requestPoll address).counters = b.counters := by
  unfold Bus.requestPoll
  split <;> exact ⟨rfl, rfl, rfl, rfl, rfl, rfl⟩

/-- A HOLD or RELEASE changes the queue and the ports that the attempt in progress counts as added. -/
theorem Bus.request_keeps (b : Bus) (address : Nat) (kind : TxKind) (ports : PortMask) :
    (b.request address kind ports).map = b.map ∧ (b.request address kind ports).phase = b.phase
      ∧ (b.request address kind ports).inbound = b.inbound ∧ (b.request address kind ports).slave = b.slave
      ∧ (b.request address kind ports).counters = b.counters := by
  unfold Bus.request Bus.join
  split <;> exact ⟨rfl, rfl, rfl, rfl, rfl⟩

/-- A POLL request adds no entry but one for its controller (R171). -/
theorem Bus.requestPoll_addresses (b : Bus) (address : Nat) (x : OutEntry) (h : x ∈ (b.requestPoll address).queue) :
    x ∈ b.queue ∨ x.address = address := by
  unfold Bus.requestPoll at h
  split at h
  · exact .inl h
  · rcases List.mem_append.mp h with h | h
    · exact .inl h
    · exact .inr (by simp_all)

/-- The address byte of another master's transfer changes the slave side alone (R181). -/
theorem Bus.addressByte_keeps (b : Bus) (own : Nat) (byte : Byte) :
    (b.addressByte own byte).map = b.map ∧ (b.addressByte own byte).queue = b.queue
      ∧ (b.addressByte own byte).phase = b.phase ∧ (b.addressByte own byte).attempt = b.attempt
      ∧ (b.addressByte own byte).inbound = b.inbound ∧ (b.addressByte own byte).counters = b.counters := by
  unfold Bus.addressByte
  simp only []
  split
  · split <;> exact ⟨rfl, rfl, rfl, rfl, rfl, rfl⟩
  · exact ⟨rfl, rfl, rfl, rfl, rfl, rfl⟩

/-- The part holds the clock low exactly while it stretches (R181). -/
@[simp] theorem Bus.holdsClock_iff (b : Bus) : b.holdsClock = true ↔ ∃ g n, b.slave = .stretching g n := by
  unfold Bus.holdsClock
  split <;> simp_all

/-- Nothing is declared in STUCK or under the part's own stretch (R180). -/
theorem execStuckBus_of_none (acked : Bool) {s : State} (h : s.bus.phase = .stuck ∨ ∃ g n, s.bus.slave = .stretching g n) :
    execStuckBus acked s = .next s := by
  unfold execStuckBus
  rw [if_pos (h.imp_right (Bus.holdsClock_iff _).mpr)]

/-! ### Attempts -/

/-- The START of the head entry's attempt (R173, R174). -/
theorem Bus.startAttempt_of_head {b : Bus} {x : OutEntry} {rest : List OutEntry} (h : b.queue = x :: rest) :
    b.startAttempt = { b with
      phase := .master, slave := .aside, acks := [], out := txBytes x.address x.kind x.mask
      queue := { x with retry := .ready } :: rest
      attempt := some { address := x.address, kind := x.kind, count := b.portCount x.address, sent := x.mask, added := 0,
                        orphan := false } } := by
  simp [Bus.startAttempt, Bus.modHead, h]

/-- A HOLD or RELEASE reads no byte: none is acknowledged, and any operand is its success (R174). -/
theorem Attempt.reads_nothing {a : Attempt} (h : a.kind ≠ .poll) (bytes : List Byte) :
    a.readAcks = [] ∧ a.readWhole bytes = true := by
  cases hk : a.kind <;> simp_all [Attempt.readAcks, Attempt.readWhole]

/-- A POLL acknowledges every state byte but the last, one for each port (R174, R205). -/
theorem Attempt.reads_of_poll {a : Attempt} (h : a.kind = .poll) (bytes : List Byte) :
    a.readAcks = (List.range a.count).map (fun k => decide (k + 1 < a.count))
      ∧ (a.readWhole bytes = true ↔ bytes.length = a.count) := by
  simp [Attempt.readAcks, Attempt.readWhole, h]

end Sys2Proof.Machine
end

