-- ==== Sys2Proof/Laws/Records.lean ====
section
/-! SUPPORT. The Record Store's operations: what a search of the Trace Store finds, where a write can go, what storing a
result leaves. -/

namespace Sys2Proof.Machine

/-- A found trace slot is occupied and passes the test. -/
theorem RecordStore.findTrace_some {st : RecordStore} {f : TraceSet → Bool} {j : TraceId} (h : st.findTrace f = some j) :
    ∃ t, st.traces[j] = some t ∧ f t = true := by
  have := List.find?_some h
  revert this
  cases ht : st.traces[j] with
  | none => simp
  | some t => exact fun hf => ⟨t, rfl, hf⟩

/-- Where none is found, no occupied slot passes the test. -/
theorem RecordStore.findTrace_none {st : RecordStore} {f : TraceSet → Bool} (h : st.findTrace f = none) (j : TraceId)
    (t : TraceSet) (ht : st.traces[j] = some t) : f t = false := by
  have := List.find?_eq_none.mp h j (List.mem_finRange j)
  simpa [ht] using this

theorem RecordStore.freshOf_some {st : RecordStore} {p : PortId} {j : TraceId} (h : st.freshOf p = some j) :
    ∃ t, st.traces[j] = some t ∧ t.port = p ∧ t.stale = false := by
  obtain ⟨t, ht, hf⟩ := RecordStore.findTrace_some h
  exact ⟨t, ht, by simpa using hf⟩

theorem RecordStore.heldOf_some {st : RecordStore} {p : PortId} {j : TraceId} (h : st.heldOf p = some j) :
    ∃ t, st.traces[j] = some t ∧ t.port = p ∧ t.held = true := by
  obtain ⟨t, ht, hf⟩ := RecordStore.findTrace_some h
  exact ⟨t, ht, by simpa using hf⟩

/-- A free trace slot is empty. -/
theorem RecordStore.freeTrace_some {st : RecordStore} {j : TraceId} (h : st.freeTrace = some j) : st.traces[j] = none := by
  simpa using List.find?_some h

/-- A slot that may be given up holds a trace set that is neither held nor stale. -/
theorem RecordStore.evictable_some {st : RecordStore} {j : TraceId} (h : st.evictable = some j) :
    j ∈ st.order ∧ ∃ t, st.traces[j] = some t ∧ t.held = false ∧ t.stale = false := by
  refine ⟨List.mem_of_find?_eq_some h, ?_⟩
  have := List.find?_some h
  revert this
  cases ht : st.traces[j] with
  | none => simp
  | some t => exact fun hf => ⟨t, rfl, by simpa using hf⟩

/-- Steps 2 and 3 of R159 write the set into one slot that was empty or neither held nor stale, or drop it. -/
theorem RecordStore.placeElsewhere_cases (st : RecordStore) (t : TraceSet) :
    (∃ j, (st.freeTrace = some j ∨ st.freeTrace = none ∧ st.evictable = some j)
        ∧ st.placeElsewhere t = (st.put j t, false))
      ∨ st.freeTrace = none ∧ st.evictable = none ∧ st.placeElsewhere t = (st, true) := by
  unfold RecordStore.placeElsewhere
  cases hf : st.freeTrace with
  | some j => exact Or.inl ⟨j, Or.inl rfl, rfl⟩
  | none =>
    cases he : st.evictable with
    | some j => exact Or.inl ⟨j, Or.inr ⟨rfl, rfl⟩, rfl⟩
    | none => exact Or.inr ⟨rfl, rfl, rfl⟩

/-- A write replaces the port's own unheld slot, or goes elsewhere, with the port's held slot marked stale first. -/
theorem RecordStore.write_cases (st : RecordStore) (t : TraceSet) :
    (∃ j old, st.freshOf t.port = some j ∧ st.traces[j] = some old ∧ old.held = false
        ∧ st.write t = (st.put j t, false))
      ∨ (∃ j old, st.freshOf t.port = some j ∧ st.traces[j] = some old ∧ old.held = true
        ∧ st.write t = (st.markStale j).placeElsewhere t)
      ∨ st.freshOf t.port = none ∧ st.write t = st.placeElsewhere t := by
  unfold RecordStore.write
  cases hf : st.freshOf t.port with
  | none => exact Or.inr (Or.inr ⟨rfl, rfl⟩)
  | some j =>
    obtain ⟨old, ho, -, -⟩ := RecordStore.freshOf_some hf
    cases hh : old.held with
    | false => exact Or.inl ⟨j, old, rfl, ho, hh, by simp only [ho, hh]; rfl⟩
    | true => exact Or.inr (Or.inl ⟨j, old, rfl, ho, hh, by simp only [ho, hh]; rfl⟩)

/-- The write of a trace set leaves the records and the record counter. -/
theorem RecordStore.write_keeps (st : RecordStore) (t : TraceSet) :
    (st.write t).1.records = st.records ∧ (st.write t).1.counter = st.counter := by
  have place : ∀ u : RecordStore, (u.placeElsewhere t).1.records = u.records ∧ (u.placeElsewhere t).1.counter = u.counter := by
    intro u
    rcases u.placeElsewhere_cases t with ⟨j, -, h⟩ | ⟨-, -, h⟩ <;> rw [h] <;> exact ⟨rfl, rfl⟩
  rcases st.write_cases t with ⟨j, old, -, -, -, h⟩ | ⟨j, old, -, -, -, h⟩ | ⟨-, h⟩
  · rw [h]
    exact ⟨rfl, rfl⟩
  · rw [h]
    exact place (st.markStale j)
  · rw [h]
    exact place st

/-- A stored result takes the next sequence number and its port's record, and no other port's (R153, R154). -/
theorem RecordStore.store_counter (st : RecordStore) (seconds : Nat) (p : PortId) (r : Result) :
    (st.store seconds p r).1.counter = nextSeq st.counter := by
  unfold RecordStore.store
  simp only []
  split
  · exact (RecordStore.write_keeps _ _).2
  · rfl

end Sys2Proof.Machine
end

