-- ==== Sys2Proof/Laws/Scheduler.lean ====
section
/-! SUPPORT. What the scheduler's operations find, and what they leave as it was. -/

namespace Sys2Proof.Machine

/-! ### Finding slots -/

/-- A found slot is occupied and passes the test. -/
theorem State.findSlot_some {s : State} {f : Slot → Bool} {i : SlotId} (h : s.findSlot f = some i) :
    ∃ x, s.slot i = some x ∧ f x = true := by
  have := List.find?_some h
  revert this
  cases hx : s.slot i with
  | none => simp
  | some x => exact fun hf => ⟨x, rfl, hf⟩

/-- Where none is found, no occupied slot passes the test. -/
theorem State.findSlot_none {s : State} {f : Slot → Bool} (h : s.findSlot f = none) (i : SlotId) (x : Slot)
    (hx : s.slot i = some x) : f x = false := by
  have := List.find?_eq_none.mp h i (List.mem_finRange i)
  simpa [hx] using this

theorem State.queuedSlot_some {s : State} {p : PortId} {i : SlotId} (h : s.queuedSlot p = some i) :
    ∃ x, s.slot i = some x ∧ x.port = p ∧ x.phase = .queued := by
  obtain ⟨x, hx, hf⟩ := State.findSlot_some h
  exact ⟨x, hx, by simpa using hf⟩

theorem State.assignedSlot_some {s : State} {p : PortId} {i : SlotId} (h : s.assignedSlot p = some i) :
    ∃ x e, s.slot i = some x ∧ x.port = p ∧ x.phase = .assigned e := by
  obtain ⟨x, hx, hf⟩ := State.findSlot_some h
  have : x.port = p ∧ x.phase.isAssigned = true := by simpa using hf
  obtain ⟨hp, ha⟩ := this
  revert ha
  cases hph : x.phase with
  | assigned e => exact fun _ => ⟨x, e, hx, hp, hph⟩
  | queued => simp [Phase.isAssigned]
  | complete => simp [Phase.isAssigned]

theorem State.slotOfEngine_some {s : State} {e : EngineId} {i : SlotId} (h : s.slotOfEngine e = some i) :
    ∃ x, s.slot i = some x ∧ x.phase = .assigned e := by
  obtain ⟨x, hx, hf⟩ := State.findSlot_some h
  exact ⟨x, hx, by simpa using hf⟩

/-- A free slot is empty. -/
theorem State.freeSlot_some {s : State} {i : SlotId} (h : s.freeSlot = some i) : s.slot i = none := by
  simpa using List.find?_some h

/-! ### What the scheduler leaves -/

/-- The fields that neither a grant scan nor a completion touches: the clock, the straps, the profiles, the reference,
the admission counter, the free values and the queue of commands. -/
def State.sameBase (s t : State) : Prop :=
  t.seconds = s.seconds ∧ t.millis = s.millis ∧ t.micros = s.micros ∧ t.pins = s.pins ∧ t.straps = s.straps
    ∧ t.profiles = s.profiles ∧ t.admissions = s.admissions ∧ t.taken = s.taken ∧ t.reference = s.reference
    ∧ t.freeCount = s.freeCount ∧ t.pending = s.pending

theorem State.sameBase.refl (s : State) : s.sameBase s := ⟨rfl, rfl, rfl, rfl, rfl, rfl, rfl, rfl, rfl, rfl, rfl⟩

theorem State.sameBase.trans {s t u : State} (h : s.sameBase t) (k : t.sameBase u) : s.sameBase u := by
  obtain ⟨a1, a2, a3, a4, a5, a6, a7, a8, a9, a10, a11⟩ := h
  obtain ⟨b1, b2, b3, b4, b5, b6, b7, b8, b9, b10, b11⟩ := k
  exact ⟨b1.trans a1, b2.trans a2, b3.trans a3, b4.trans a4, b5.trans a5, b6.trans a6, b7.trans a7, b8.trans a8,
    b9.trans a9, b10.trans a10, b11.trans a11⟩

theorem State.sameButLink.sameBase {s t : State} (h : s.sameButLink t) : s.sameBase t := by
  rw [State.sameButLink] at h
  rw [h]
  exact State.sameBase.refl s

/-- A fold of steps that each keep the base keeps it. -/
theorem State.sameBase.foldl {α : Type} (f : State → α → State) (h : ∀ (s : State) (a : α), s.sameBase (f s a)) (l : List α) (s : State) :
    s.sameBase (l.foldl f s) := by
  induction l generalizing s with
  | nil => exact State.sameBase.refl s
  | cons a l ih => exact (h s a).trans (ih (f s a))

theorem State.modPort_base (s : State) (p : PortId) (f : PortCtx → PortCtx) : s.sameBase (s.modPort p f) :=
  State.sameBase.refl s

theorem State.queueNotice_base (s : State) (n : Notice) : s.sameBase (s.queueNotice n) :=
  (s.queueNotice_sameButLink n).sameBase

theorem State.movePort_base (s : State) (p : PortId) (f : PortCtx → PortCtx) : s.sameBase (s.movePort p f) := by
  unfold State.movePort
  simp only []
  split
  · exact State.modPort_base s p f
  · exact (State.modPort_base s p f).trans (State.queueNotice_base _ _)

theorem State.sendLane_base (s : State) (p : PortId) (c : LaneCommand) : s.sameBase (s.sendLane p c) :=
  State.sameBase.refl s

theorem State.enterFaulted_base (s : State) (p : PortId) (cause : Cause) : s.sameBase (s.enterFaulted p cause) :=
  (s.movePort_base p _).trans (State.sendLane_base _ _ _)

theorem State.enterListen_base (s : State) (p : PortId) (c : Option Cause) (b : Bool) : s.sameBase (s.enterListen p c b) := by
  unfold State.enterListen
  simp only []
  split
  · exact (s.movePort_base p _).trans (State.sendLane_base _ _ _)
  · exact s.movePort_base p _

theorem State.enterDiagnose_base (s : State) (p : PortId) : s.sameBase (s.enterDiagnose p) :=
  (s.movePort_base p _).trans (State.sendLane_base _ _ _)

theorem State.exitDiagnose_base (s : State) (p : PortId) (v : Option Verdict) (len : Option LengthEstimate) :
    s.sameBase (s.exitDiagnose p v len) := by
  unfold State.exitDiagnose
  simp only []
  have h : s.sameBase ((s.modPort p (.applyVerdict v len)).modPort p fun c => { c with returnInfo := none }) :=
    State.sameBase.refl s
  refine h.trans ?_
  split
  · exact (State.movePort_base _ p _).trans (State.sendLane_base _ _ _)
  · exact State.enterFaulted_base _ p _
  · exact (State.modPort_base _ p _).trans (State.enterListen_base _ p _ _)
  · exact (State.movePort_base _ p _).trans (State.sendLane_base _ _ _)
  · exact State.enterListen_base _ p _ _

theorem State.requestFor_base (s : State) (p : PortId) (k : TxKind) : s.sameBase (s.requestFor p k) := by
  unfold State.requestFor
  split <;> exact State.sameBase.refl s

theorem State.setUnknown_base (s : State) (p : PortId) : s.sameBase (s.setUnknown p) := by
  unfold State.setUnknown
  simp only []
  split
  · split <;> exact State.sameBase.refl s
  · exact State.sameBase.refl s

theorem State.completeEngine_base (s : State) (g : SlotStage) (b : Bool) : s.sameBase (s.completeEngine g b) := by
  unfold State.completeEngine
  split <;> exact State.sameBase.refl s

theorem State.completeRoute_base (s : State) (p : PortId) (g : SlotStage) : s.sameBase (s.completeRoute p g) := by
  unfold State.completeRoute
  split <;> exact State.sameBase.refl s

theorem State.completeHold_base (s : State) (p : PortId) (g : SlotStage) : s.sameBase (s.completeHold p g) := by
  unfold State.completeHold
  split
  · simp only []
    have h : s.sameBase ((s.requestFor p .release).modPort p fun c => { c with holdOwned := false }) :=
      (s.requestFor_base p .release).trans (State.modPort_base _ p _)
    split
    · exact h.trans (State.setUnknown_base _ p)
    · exact h
  · exact State.sameBase.refl s

theorem State.completeRecord_base (s : State) (p : PortId) (r : Option Result) : s.sameBase (s.completeRecord p r).1 := by
  unfold State.completeRecord
  split <;> exact State.sameBase.refl s

theorem State.completePort_base (s : State) (i : SlotId) (p : PortId) (g : SlotStage) (o : DiagOutcome)
    (r : Option Result) : s.sameBase (s.completePort i p g o r) := by
  unfold State.completePort
  split
  · split <;> exact State.exitDiagnose_base s p _ _
  · split
    · exact State.enterFaulted_base s p _
    · exact State.sameBase.refl s

theorem State.completeSlot_base (s : State) (i : SlotId) (x : Slot) (o : DiagOutcome) (e : Option EngineId)
    (rc : Option StoreReceipt) : s.sameBase (s.completeSlot i x o e rc) := by
  unfold State.completeSlot
  split
  · exact (State.sameBase.refl s : s.sameBase (s.setSlot i _)).trans (State.queueNotice_base _ _)
  · exact State.sameBase.refl s

theorem State.completeCore_base (s : State) (i : SlotId) (o : DiagOutcome) (r : Option Result) (b : Bool) :
    s.sameBase (s.completeCore i o r b) := by
  unfold State.completeCore
  split
  · exact State.sameBase.refl s
  · simp only []
    exact (((((State.completeEngine_base s _ b).trans (State.completeRoute_base _ _ _)).trans
      (State.completeHold_base _ _ _)).trans (State.completeRecord_base _ _ _)).trans
      (State.completePort_base _ _ _ _ _ _)).trans (State.completeSlot_base _ _ _ _ _ _)

theorem State.routePort_base (s : State) (p : PortId) (e : EngineId) : s.sameBase (s.routePort p e) :=
  s.enterDiagnose_base p

theorem State.routeTest_base (s : State) (i : SlotId) : s.sameBase (s.routeTest i) := by
  unfold State.routeTest
  split
  · split
    · split
      · exact s.routePort_base _ _
      · exact State.sameBase.refl s
    · exact State.sameBase.refl s
  · exact State.sameBase.refl s

theorem State.assign_base (s : State) (i : SlotId) (x : Slot) (e : EngineId) : s.sameBase (s.assign i x e) := by
  unfold State.assign
  simp only []
  split <;> exact State.sameBase.refl s

theorem State.requestHold_base (s : State) (i : SlotId) (p : PortId) : s.sameBase (s.requestHold i p) := by
  unfold State.requestHold
  exact (s.requestFor_base p .hold).trans (State.sameBase.refl _)

theorem State.considerSlot_base (s : State) (i : SlotId) : s.sameBase (s.considerSlot i) := by
  unfold State.considerSlot
  split
  · exact State.sameBase.refl s
  · split
    · exact State.sameBase.refl s
    · simp only []
      split
      · split
        · exact (s.assign_base i _ _).trans (State.routeTest_base _ i)
        · exact State.sameBase.refl s
      · split
        · exact s.completeCore_base i _ _ _
        · split
          · split
            · exact (s.assign_base i _ _).trans (State.requestHold_base _ i _)
            · exact State.sameBase.refl s
          · exact State.sameBase.refl s

/-- A grant scan touches slots, ports, lanes, engines, routes, jobs, the store, the bus and the link, and nothing else. -/
theorem State.grantScan_base (s : State) : s.sameBase s.grantScan :=
  State.sameBase.foldl _ State.considerSlot_base s.grantOrder s

/-- A completion with its scan touches no more than a scan does. -/
theorem State.complete_base (s : State) (i : SlotId) (o : DiagOutcome) (r : Option Result) (b : Bool) :
    s.sameBase (s.complete i o r b) :=
  (s.completeCore_base i o r b).trans (State.grantScan_base _)

/-- The completion of an occupied slot, as the composition of the six steps of R98. -/
theorem State.completeCore_of_slot {s : State} {i : SlotId} {x : Slot} (h : s.slot i = some x) (o : DiagOutcome)
    (r : Option Result) (b : Bool) :
    s.completeCore i o r b =
      let g := s.stageOf x
      let t := ((s.completeEngine g b).completeRoute x.port g).completeHold x.port g
      let u := t.completeRecord x.port r
      (u.1.completePort i x.port g o r).completeSlot i (if o = .passive then { x with kind := .passive } else x) o
        g.engine? u.2 := by
  unfold State.completeCore
  rw [h]

/-- A power state change acts within what a completion, a routing or a port update can touch. -/
theorem State.powerChanged_base (s : State) (p : PortId) (old : PowerState) : s.sameBase (s.powerChanged p old) := by
  unfold State.powerChanged
  split
  · exact State.sameBase.refl s
  · split
    · exact State.sameBase.refl s
    · simp only []
      have stop : ∀ (t : State) (b : Bool) (i : SlotId) (o : DiagOutcome),
          t.sameBase (if b = true then t else t.complete i o none false) := by
        intro t b i o
        cases b
        · exact t.complete_base i o none false
        · exact State.sameBase.refl t
      have own : s.sameBase (s.modPort p fun c => { c with holdOwned := false }) := s.modPort_base p _
      have ends : ∀ i, s.sameBase ((if old = .holdPending then s.stopHoldTimer i else s).routeTest i) := by
        intro i
        split
        · exact (State.sameBase.refl s : s.sameBase (s.stopHoldTimer i)).trans (State.routeTest_base _ i)
        · exact s.routeTest_base i
      split
      · exact ends _
      · exact ends _
      · split
        · exact own.trans (stop _ _ _ _)
        · exact s.routeTest_base _
      · exact own.trans (stop _ _ _ _)
      · exact stop _ _ _ _
      · exact stop _ _ _ _
      · split
        · exact own.trans (stop _ _ _ _)
        · exact stop _ _ _ _
      · exact State.sameBase.refl s

theorem State.applyPower_base (s : State) (p : PortId) (new : PowerState) : s.sameBase (s.applyPower p new) := by
  unfold State.applyPower
  simp only []
  split
  · exact State.sameBase.refl s
  · exact ((s.modPort_base p _).trans (State.powerChanged_base _ p _)).trans (State.grantScan_base _)

theorem State.setPowers_base (s : State) (f : PortId → Option PowerState) : s.sameBase (s.setPowers f) := by
  unfold State.setPowers
  exact (State.sameBase.foldl _ (fun t p => t.modPort_base p _) _ _).trans
    (State.sameBase.foldl _ (fun t p => (t.powerChanged_base p _).trans (State.grantScan_base _)) _ _)

theorem State.holdFailed_base (s : State) (o : DiagOutcome) (p : PortId) : s.sameBase (s.holdFailed o p) := by
  unfold State.holdFailed
  split
  · exact State.sameBase.refl s
  · split
    · exact State.sameBase.refl s
    · split
      · simp only []
        have h : s.sameBase ((s.modPort p fun c => { c with holdOwned := false }).setUnknown p) :=
          (s.modPort_base p _).trans (State.setUnknown_base _ p)
        split
        · exact h.trans (State.grantScan_base _)
        · exact h.trans (State.complete_base _ _ _ _ _)
      · exact State.sameBase.refl s

/-- R94, R172: a port owns a hold exactly where an ASSIGNED slot stands for it and its hold owned is set. -/
theorem State.ownsHold_iff (s : State) (p : PortId) :
    s.ownsHold p = true ↔ (s.assignedSlot p).isSome = true ∧ (s.port p).holdOwned = true := by
  simp [State.ownsHold]

/-- R94: a failed hold does nothing to a port that owns none. -/
theorem State.holdFailed_of_not_owner (s : State) (o : DiagOutcome) (p : PortId) (h : s.ownsHold p = false) :
    s.holdFailed o p = s := by
  unfold State.holdFailed
  cases ha : s.assignedSlot p with
  | none => rfl
  | some i =>
    have hf : (s.port p).holdOwned = false := by simpa [State.ownsHold, ha] using h
    simp only [hf]; split <;> rfl

end Sys2Proof.Machine
end

