-- ==== Sys2Proof/Laws/Reference.lean ====
section
/-! SUPPORT. What a loss of the reference does, engine by engine. -/

namespace Sys2Proof.Machine

/-- Everything that the abort of one engine can do at a loss: a completion, a freed engine without a slot, or nothing. -/
theorem State.abortForReference_cases (s : State) (e : EngineId) :
    (∃ i, ((s.engine e).duty = .routing ∨ (s.engine e).duty = .capturing) ∧ s.slotOfEngine e = some i
        ∧ s.abortForReference e = s.complete i .abortedRef none true)
      ∨ (((s.engine e).duty = .routing ∨ (s.engine e).duty = .capturing) ∧ s.slotOfEngine e = none
        ∧ s.abortForReference e = s.modEngine e (·.aborted true))
      ∨ (¬((s.engine e).duty = .routing ∨ (s.engine e).duty = .capturing) ∧ s.abortForReference e = s) := by
  unfold State.abortForReference
  split
  · next h =>
    split
    · next i hi => exact .inl ⟨i, h, hi, rfl⟩
    · next hn => exact .inr (.inl ⟨h, hn, rfl⟩)
  · next h => exact .inr (.inr ⟨h, rfl⟩)

theorem State.abortForReference_base (s : State) (e : EngineId) : s.sameBase (s.abortForReference e) := by
  obtain ⟨i, -, -, h⟩ | ⟨-, -, h⟩ | ⟨-, h⟩ := s.abortForReference_cases e <;> rw [h]
  · exact s.complete_base i _ _ _
  · exact State.sameBase.refl s
  · exact State.sameBase.refl s

/-- The aborts of a loss leave the presence, the loss count and the seconds, which REF_CHANGE then carries (R126). -/
theorem State.abortForReference_foldl_base (s : State) (l : List EngineId) :
    s.sameBase (l.foldl State.abortForReference s) :=
  State.sameBase.foldl _ State.abortForReference_base l s

end Sys2Proof.Machine
end

