-- ==== Sys2Proof/Tests/Slice0.lean ====
section
/-! SUPPORT. Tests: ill-formed commands, the spec's worked cases, single steps, and for each statement with hypotheses a
witness that meets them, clause by clause. Expected results are the spec's own figures. -/

namespace Sys2Proof.Tests

open Sys2Proof Sys2Proof.Machine

/-! ### States -/

/-- The block after reset with the host line READY and nothing to send. -/
def ready : State :=
  { State.reset with link := { State.reset.link with ready := true, readyTimer := none, notices := [] } }

/-- One port in a given context. -/
def port5 (c : PortCtx) : State := ready.setPort 5 c

/-- A port in a given state. -/
def inState (st : PortState) : PortCtx := { PortCtx.reset with state := st }

/-- A report at the head of lane 0, and port 5 in a given context. -/
def taking (r : Report) (c : PortCtx) : State :=
  (port5 c).setLane 0 { up := true, watch := some 300, fifo := [r], ready := true, sent := [] }

/-- A slot for port 5. -/
def slot5 (phase : Phase) : Slot :=
  { phase := phase, port := 5, kind := .full, urgency := .auto, averaging := .n16, force := false, origin := .auto,
    tags := [], seq := 1, age := 0, holdTimer := none, outcome := none, receipt := none }

/-- An engine with a duty and a warmth. -/
def engineIn (d : Duty) (w : Warmth) : Engine := { Engine.reset with duty := d, warmth := w }

/-- Slot 0 for port 5, engine 2 with a duty, port 5 in a context. -/
def serving (phase : Phase) (e : Engine) (c : PortCtx) : State := ((port5 c).setSlot 0 (some (slot5 phase))).setEngine 2 e

/-- A map entry for ports 0 to 11. -/
def entry89 (pr : Presence) (nacks : Nat) : MapEntry :=
  { address := 89, first := 0, count := 12, presence := pr, nacks := nacks, rePoll := some 1000 }

/-- An outbound entry for controller 89. -/
def out89 (k : TxKind) (losses : Nat) (r : Retry) : OutEntry :=
  { address := 89, kind := k, mask := 32, losses := losses, retry := r }

/-- The bus in a phase with a queue and controller 89. -/
def busIn (ph : BusPhase) (q : List OutEntry) : State :=
  ready.setBus { Bus.reset with phase := ph, queue := q, map := [entry89 .present 0] }

/-- An attempt at controller 89. -/
def attempt89 (k : TxKind) (orphan : Bool) : Attempt :=
  { address := 89, kind := k, count := 12, sent := 32, added := 0, orphan := orphan }

/-- The bus as MASTER in an attempt of its head entry. -/
def attempting (k : TxKind) (losses : Nat) (m : MapEntry) : State :=
  ready.setBus { Bus.reset with
    phase := .master, queue := [out89 k losses .ready], map := [m]
    attempt := some (attempt89 k false) }

/-! ### Well-formedness -/

theorem test_long_map_refused : (Instr.powerMap 0 (List.replicate 84 ⟨89, 0, 1⟩)).wellFormed = false := by decide
theorem test_empty_lane_word_refused : (Instr.laneReportArrival 0 []).wellFormed = false := by decide
theorem test_long_lane_word_arrives : (Instr.laneReportArrival 0 (List.replicate 10 0x60)).wellFormed = true
    ∧ laneWordOfBytes (List.replicate 10 0x60) = none := by decide
theorem test_state_bytes_refused : (Instr.transactionSuccess (List.replicate 13 1)).wellFormed = false := by decide
theorem test_empty_event_refused : (Instr.eventWrite []).wellFormed = false := by decide
theorem test_empty_call_refused : (Instr.generalCallReceived []).wellFormed = false := by decide
theorem test_map_accepted : (Instr.powerMap 0 [⟨89, 0, 12⟩]).wellFormed = true := by decide

/-! ### Worked cases of the spec -/

/-- R190: the check over the ASCII characters 123456789. -/
theorem test_crc : crc16 [0x31, 0x32, 0x33, 0x34, 0x35, 0x36, 0x37, 0x38, 0x39] = 0x29B1 := by decide +kernel

/-- R206: the MARGIN word of local port 5. -/
theorem test_margin_word : laneWordOfBytes [0x65, 0x00, 0x22, 0xFF, 0xF6, 0x01, 0x5E, 0x01, 0x90] =
    some (.report (.margin 5 { a := 34, b := -10, c := 300, d := 300 })) := by decide

/-- R43: the worked lengths. -/
theorem test_lengths : lengthOfLoss 1650 2200 = 7500 ∧ lengthOfLoss 1650 1900 = 8684 ∧ lengthOfLoss 5000 2400 = 20000
    ∧ lengthOfLoss 6000 500 = 20000 ∧ lengthOfLoss 0 2200 = 0 := by decide

/-- R17: averages are floored toward minus infinity. -/
theorem test_verify_averages : Int.fdiv 121 4 = 30 ∧ Int.fdiv (-7) 4 = -2 := by decide

/-- R137: rounding is half away from zero. -/
theorem test_rounding : roundHalfAway 5 2 = 3 ∧ roundHalfAway (-5) 2 = -3 ∧ roundHalfAway (-4) 3 = -1 := by decide

/-- R134 to R137: the worked echo at index 487 with L0 38. -/
theorem test_echo : distanceOf (positionOf 487 180 300 260) 38 690 = 4941 ∧ rhoOf 300 (gainOf 4941 6) 400 = 972 := by
  decide

/-- The table gives no row any bits. -/
theorem test_no_word_decodes : decodeTableWord 8 0 = none := rfl

/-! ### Single steps -/

theorem test_admin_up_listens :
    (match exec (.portAdminUp 7 5) ready with
      | .next t => (t.port 5).state == .listen && t.link.waiting.map (·.frame.payload) == some [0, 5, 1, 1]
      | _ => false) = true := by decide

theorem test_energy_negotiates :
    (match exec (.energy 0) (taking (.energy 5 true) (inState .listen)) with
      | .next t => (t.port 5).state == .negotiate && (t.port 5).attempt == some 2000 && (t.lane 0).fifo == []
      | _ => false) = true := by decide

theorem test_partner_trains_10G :
    (match exec (.partner 0) (taking (.partner 5 (PerRate.all true)) (inState .negotiate)) with
      | .next t => (t.port 5).current == some .r10G && (t.lane 0).sent == [[0x15, 0x00]]
      | _ => false) = true := by decide

theorem test_request_starts_warmup :
    (match exec (.diagRequest 7 5 0 0 0 16 0 1) ready with
      | .next t => (t.engine 0).warmth == .warming && (t.engine 0).warmup == some 20 && (t.slot 0).isSome
      | _ => false) = true := by decide +kernel

theorem test_third_address_nack_loses :
    (match exec (.addressNack false) (attempting .poll 0 (entry89 .unseen 2)) with
      | .next t => t.bus.map == [{ entry89 .lost 0 with rePoll := some 1000 }] && t.bus.queue == []
      | _ => false) = true := by decide +kernel

theorem test_step_takes_the_front :
    (match step { ready with pending := [.portAdminUp 7 5, .portAdminDown 7 5] } with
      | .next t => t.pending == [.portAdminDown 7 5] && (t.port 5).state == .listen
      | _ => false) = true := by decide

theorem test_poll_reads_every_port :
    (match exec (.transactionSuccess (List.replicate 12 1)) (attempting .poll 0 (entry89 .lost 0)) with
      | .next t => (t.port 11).power == .off && t.bus.acks == List.replicate 11 true ++ [false]
      | _ => false) = true := by decide +kernel

theorem test_hold_bytes :
    (match exec (.attemptStart false) (busIn .idle [out89 .hold 0 .ready]) with
      | .next t => t.bus.out == [0xB2, 0x01, 0x00, 0x20, 0x05]
      | _ => false) = true := by decide +kernel

theorem test_part_reset_samples_pins :
    (match exec (.partReset ⟨7, ⟨.b921600, 2, .k400⟩⟩) ready with
      | .next t => (match exec .frameTransmitEnd t with
        | .next u => u.straps == ⟨.b921600, 2, .k400⟩ && !u.link.ready
        | _ => false)
      | _ => false) = true := by decide +kernel

/-! ### Witnesses: states and operands that meet the hypotheses of the statements, clause by clause -/

theorem ready_free : ready.handlerFree := ⟨rfl, rfl, rfl, rfl⟩
theorem port5_free (c : PortCtx) : (port5 c).handlerFree := ⟨rfl, rfl, rfl, rfl⟩

theorem witness_IdleStepLetsAMicrosecondPass :
    (ready.pending = [] ∧ ready.micros < 1000 ∧ ready.millis < 1000)
      ∧ ({ ready with micros := 999, millis := 999 }.pending = [] ∧ 999 < 1000) := by decide

theorem witness_LineReadyStartsTheHeadNotice :
    State.reset.link.readyTimer = some 50
      ∧ { State.reset with link := { State.reset.link with readyTimer := some 0 } }.link.readyTimer = some 0
      ∧ ready.link.readyTimer = none := by decide

/-- For every frame there are two bytes that are not its check. -/
theorem other_check (w : BitVec 16) : ∃ hi lo : Byte, [hi, lo] ≠ be16 w.toNat := by
  refine ⟨byteOf (w.toNat / 256) + 1, 0, fun h => ?_⟩
  have h1 : byteOf (w.toNat / 256) + 1 = byteOf (w.toNat / 256) := (List.cons.inj h).1
  exact absurd h1 (by bv_omega)

theorem witness_ReceiverTakesAByteOrDropsAFrame :
    State.reset.link.ready = false ∧ (ready.link.ready = true ∧ ready.link.receiver = .hunt)
      ∧ (∀ r, { ready with link := { ready.link with receiver := r } }.link.receiver = r)
      ∧ ((250 : Byte).toNat ≤ 250 ∧ (List.replicate 252 (0 : Byte)).length + 2 < (250 : Byte).toNat + 5)
      ∧ ((0 : Byte).toNat ≤ 250 ∧ ([] : List Byte).length + 2 < (0 : Byte).toNat + 5)
      ∧ (∃ (f : Frame) (hi lo : Byte), f.payload.length ≤ 250 ∧ [hi, lo] ≠ be16 (crc16 f.body).toNat)
      ∧ { ready with link := { ready.link with receiver := .inFrame [], gap := some 2 } }.link.gap = some 2
      ∧ ready.link.gap = none := by
  refine ⟨rfl, ⟨rfl, rfl⟩, fun _ => rfl, by decide +kernel, by decide, ?_, rfl, rfl⟩
  obtain ⟨hi, lo, h⟩ := other_check (crc16 (Frame.body { type := 4, tag := 1, payload := List.replicate 250 0 }))
  exact ⟨_, hi, lo, by decide +kernel, h⟩

/-- Two frames wait in the receive buffer. -/
def fullBuffer : State :=
  { ready with link := { ready.link with buffer := List.replicate 2 { type := 4, tag := 1, payload := [5] } } }

theorem witness_FramesAreReceivedWhole :
    ({ type := 4, tag := 1, payload := List.replicate 250 0 } : Frame).payload.length ≤ 250
      ∧ (ready.link.ready = true ∧ ready.link.receiver = .hunt ∧ ready.link.buffer.length < 2)
      ∧ (fullBuffer.link.ready = true ∧ fullBuffer.link.receiver = .hunt ∧ 2 ≤ fullBuffer.link.buffer.length) := by
  decide +kernel

/-- One frame waits in the receive buffer. -/
def oneFrame (type : Byte) (payload : List Byte) : State :=
  { ready with link := { ready.link with buffer := [{ type := type, tag := 1, payload := payload }] } }

theorem witness_HandlerTakesAFrameOrWaits :
    ready.link.buffer = []
      ∧ ((oneFrame 0x12 []).link.waiting = none ∧ (oneFrame 0x12 []).link.stopped = false
        ∧ (oneFrame 0x12 []).link.buffer = [{ type := 0x12, tag := 1, payload := [] }]
        ∧ ¬(1 ≤ (0x12 : Byte).toNat ∧ (0x12 : Byte).toNat ≤ 0x11))
      ∧ ¬(1 ≤ (0 : Byte).toNat ∧ (0 : Byte).toNat ≤ 0x11)
      ∧ (1 ≤ (0x11 : Byte).toNat ∧ (0x11 : Byte).toNat ≤ 0x11 ∧ lengthAllowed 0x11 [0] = false)
      ∧ (∃ r, requestOf 0x0F [1] = .ok r ∧ (ready.serve r).2.resets = false)
      ∧ (∃ r, requestOf 0x11 [] = .ok r ∧ (ready.serve r).2.resets = true)
      ∧ State.reset.link.ready = false ∧ (fullBuffer.link.ready = true ∧ 2 ≤ fullBuffer.link.buffer.length)
      ∧ ((oneFrame 4 [5]).link.ready = true ∧ (oneFrame 4 [5]).link.buffer.length < 2
        ∧ (oneFrame 4 [5]).link.buffer ≠ []) := by
  refine ⟨rfl, ⟨rfl, rfl, rfl, by decide⟩, by decide, by decide, ⟨_, rfl, rfl⟩, ⟨_, rfl, rfl⟩, rfl, by decide, by decide⟩

/-- The transmitter in a state. -/
def sendingIn (x : Transmitter) (r : Option Reply) : State :=
  { ready with link := { ready.link with transmitter := x, sending := r } }

/-- A DIAG_DONE of slot 0. -/
def done5 : DiagDone := ready.diagDoneOf (slot5 .complete) .complete none none

theorem witness_TransmitterEndsAFrame :
    ready.link.transmitter = .idle
      ∧ (∀ b : Bool, ∃ s r, (sendingIn .reply (some r)).link = s ∧ s.transmitter = .reply ∧ s.sending = some r
        ∧ r.resets = b)
      ∧ (∃ n, (sendingIn (.notice n) none).link.transmitter = .notice n ∧ ∀ i d, n ≠ .diagDone i d)
      ∧ (((sendingIn (.notice (.diagDone 0 done5)) none).setSlot 0 (some (slot5 .complete))).link.transmitter =
          .notice (.diagDone 0 done5)
        ∧ ((sendingIn (.notice (.diagDone 0 done5)) none).setSlot 0 (some (slot5 .complete))).slot 0 =
          some (slot5 .complete) ∧ (slot5 .complete).phase = .complete) := by
  refine ⟨rfl, fun b => ⟨_, { frame := { type := 0, tag := 0, payload := [] }, resets := b }, rfl, rfl, rfl, rfl⟩,
    ⟨.refChange { present := true, losses := 0, seconds := 0 }, rfl, fun _ _ h => by cases h⟩, rfl, ?_, rfl⟩
  simp

theorem witness_LinkRequestsAreServed :
    ready.handlerFree ∧ (15 : Byte).toNat < 16 ∧ 16 ≤ (16 : Byte).toNat ∧ 2 ≤ (2 : Byte).toNat :=
  ⟨ready_free, by decide, by decide, by decide⟩

/-- A PORT_CHANGE of port 5. -/
def change5 : Notice := ready.portChangeOf 5

theorem witness_NoticesCoalesceInPlace :
    ({ ready with link := { ready.link with mask := ⟨false, true, true, true⟩ } }.link.mask.enables change5 = false)
      ∧ ({ ready with link := { ready.link with notices := [.refChange ⟨true, 0, 0⟩, change5] } }.link.notices =
          [.refChange ⟨true, 0, 0⟩] ++ change5 :: []
        ∧ (Notice.refChange ⟨true, 0, 0⟩).sameSubject change5 = false ∧ change5.sameSubject change5 = true)
      ∧ (ready.link.mask.enables change5 = true ∧ ready.link.notices = [] ∧ ready.link.ready = true
        ∧ ready.link.transmitter = .idle ∧ ready.link.waiting = none)
      ∧ State.reset.link.ready = false
      ∧ (ready.portChangeOf 47).sameSubject (ready.portChangeOf 46) = false := by decide +kernel

theorem witness_PortAdmin :
    (port5 PortCtx.reset).handlerFree ∧ (0 : Byte).toNat = (0 : PortId).val ∧ (47 : Byte).toNat = (47 : PortId).val
      ∧ 48 ≤ (48 : Byte).toNat
      ∧ ((port5 { inState .up with admin := .up }).port 5).admin = .up
      ∧ (((port5 PortCtx.reset).port 5).admin = .down ∧ ((port5 PortCtx.reset).port 5).state = .off)
      ∧ (((port5 (inState .diagnose)).port 5).admin = .down ∧ ((port5 (inState .diagnose)).port 5).state = .diagnose)
      ∧ (((port5 (inState .up)).port 5).state ≠ .off ∧ ((port5 (inState .up)).port 5).state ≠ .diagnose) :=
  ⟨port5_free _, by decide +kernel⟩

theorem witness_RetrainAndLadderClear :
    (port5 PortCtx.reset).handlerFree ∧ (47 : Byte).toNat = (47 : PortId).val ∧ 48 ≤ (48 : Byte).toNat
      ∧ (∀ st, ((port5 (inState st)).port 5).state = st) ∧ ((port5 (inState .negotiate)).port 5).awaiting = false
      ∧ ¬(inState .off).inBringUp ∧ ¬({ inState .negotiate with awaiting := true } : PortCtx).inBringUp := by
  refine ⟨port5_free _, by decide, by decide, fun st => by simp [port5, inState], by decide +kernel, ?_, ?_⟩ <;>
    simp [PortCtx.inBringUp, inState, PortCtx.reset]

theorem witness_QueriesAnswerAndChangeNothing :
    ready.handlerFree ∧ (47 : Byte).toNat = (47 : PortId).val ∧ 48 ≤ (48 : Byte).toNat
      ∧ (7 : Byte).toNat = (7 : Fin 8).val ∧ 8 ≤ (8 : Byte).toNat ∧ (31 : Byte).toNat < 32 ∧ 32 ≤ (32 : Byte).toNat :=
  ⟨ready_free, by decide⟩

/-- A policy record that passes every check, with values outside their ranges. -/
def rawPolicy : RawPolicy :=
  { allowed := 31, ceiling := 4, k := 255, failsLimit := 0, trainTimeout := 65535, glitchMs := 0, flapLimit := 255
    windowS := 0, holddownS := 65535, recheckS := 9, autoDiagnose := 1, depowerAllowed := 0, profile := 7
    launchOffset := 255, averaging := 255 }

theorem witness_PolicyWriteLatchAndDiscard :
    (port5 PortCtx.reset).handlerFree ∧ (47 : Byte).toNat = (47 : PortId).val ∧ 48 ≤ (48 : Byte).toNat
      ∧ (Policy.ofRaw rawPolicy).isSome = true ∧ Policy.ofRaw { rawPolicy with profile := 8 } = none
      ∧ (∀ st, ((port5 (inState st)).port 5).state = st)
      ∧ ({ PortCtx.reset with pendingPolicy := some Policy.default, flapCount := 4 } : PortCtx).pendingPolicy =
          some Policy.default
      ∧ 4 < Policy.default.flapLimit ∧ Policy.default.flapLimit ≤ 5 :=
  ⟨port5_free _, by decide, by decide, by decide, by decide, fun st => by simp [port5, inState], by decide, by decide,
    by decide⟩

theorem witness_PolicyRecords :
    (Policy.ofRaw rawPolicy).isSome = true ∧ Policy.default.inRange ∧ Profile.default.inRange := by
  refine ⟨by decide, by unfold Policy.inRange; decide, ?_⟩
  refine ⟨by decide, by decide, by decide, by decide, by decide, by decide, by decide, by decide, by decide, by decide,
    by decide, fun r => by cases r <;> decide, by decide⟩

theorem witness_ProfileWrite :
    ready.handlerFree ∧ (7 : Byte).toNat = (7 : Fin 8).val ∧ 8 ≤ (8 : Byte).toNat
      ∧ max 50 (min 500 (449 : Half).toNat) < max 300 (min 950 (450 : Half).toNat)
      ∧ max 300 (min 950 (450 : Half).toNat) ≤ max 50 (min 500 (700 : Half).toNat) :=
  ⟨ready_free, by decide⟩

/-- A Request Table without a free slot. -/
def fullTable : State := { ready with slots := Vector.replicate 32 (some { slot5 .complete with port := 7 }) }

theorem witness_DiagRequestAdmission :
    ready.handlerFree ∧ fullTable.handlerFree ∧ (port5 (inState .up)).handlerFree
      ∧ { ready with admissions := 4294967295 }.countAdmission.admissions = 1
      ∧ (48 ≤ (48 : Byte).toNat ∧ 4 ≤ (4 : Byte).toNat ∧ 2 ≤ (2 : Byte).toNat)
      ∧ ((47 : Byte).toNat = (47 : PortId).val ∧ kindOfBytes 1 3 = some (.pair .D) ∧ kindOfBytes 3 9 = some .passive
        ∧ urgencyOfByte 2 = some .routine ∧ boolOfCode (0 : Byte).toNat = some false ∧ (1 : Half) ≠ 0)
      ∧ fullTable.freeSlot = none ∧ ready.freeSlot = some 0
      ∧ ((port5 (inState .up)).port 5).state = .up
      ∧ ((port5 { PortCtx.reset with power := .powered }).port 5).active.depowerAllowed = false
      ∧ (∀ tags : List Nat, ((port5 PortCtx.reset).setSlot 0 (some { slot5 .queued with tags := tags })).slot 0 =
          some { slot5 .queued with tags := tags })
      ∧ (ready.setSlot 0 (some { slot5 .queued with tags := [1, 2, 3] })).queuedSlot 5 = some 0
      ∧ (ready.setSlot 0 (some { slot5 .queued with tags := [1, 2, 3, 4] })).queuedSlot 5 = some 0
      ∧ fullTable.queuedSlot 5 = none ∧ ready.queuedSlot 5 = none := by
  refine ⟨ready_free, ⟨rfl, rfl, rfl, rfl⟩, port5_free _, by decide, by decide, by decide, by decide +kernel, by decide +kernel,
    by decide +kernel, by decide +kernel, fun tags => by simp, by decide +kernel, by decide +kernel, by decide +kernel,
    by decide +kernel⟩

/-- Port 5 fed by controller 89, with a QUEUED slot. -/
def asking (power : PowerState) (depower : Bool) (pr : Presence) : State :=
  ((port5 { PortCtx.reset with
      power := power, active := { Policy.default with depowerAllowed := depower } }).setSlot 0 (some (slot5 .queued))).setBus
    { Bus.reset with map := [entry89 pr 0] }

/-- No engine is FREE. -/
def busyEngines (s : State) : State := { s with engines := Vector.replicate 4 (engineIn .recovering .warm) }

/-- R82: the part's own request takes the averaging of the active policy and carries no tag. -/
theorem test_own_request :
    let s := (port5 { PortCtx.reset with active := { Policy.default with averaging := .n64 } })
    ((s.offerAuto 5 .quick).1.slot 0).map (fun x => (x.averaging, x.urgency, x.origin, x.tags, x.force)) =
      some (.n64, .auto, .auto, [], false) := by decide +kernel

theorem witness_GrantScanCases :
    ((asking .none true .present).slot 0 = some (slot5 .queued) ∧ (slot5 .queued).phase = .queued)
      ∧ ((asking .none true .present).setSlot 1 (some (slot5 (.assigned 3)))).assignedSlot 5 = some 1
      ∧ (asking .off true .present).assignedSlot 5 = none
      ∧ ((asking .held true .present).port 5).power = .held ∧ (asking .held true .present).freeEngine = some 0
      ∧ (((asking .powered true .present).port 5).active.depowerAllowed = true
        ∧ (asking .powered true .present).controllerOf 5 = some (entry89 .present 0))
      ∧ ((asking .powered false .present).port 5).active.depowerAllowed = false
      ∧ (busyEngines (asking .powered true .present)).freeEngine = none
      ∧ (asking .powered true .lost).controllerOf 5 = some (entry89 .lost 0)
      ∧ ((asking .detecting true .present).port 5).power = .detecting := by
  decide +kernel

theorem witness_EngineAssignmentAndHold :
    ready.freeEngine = some 0 ∧ (ready.setEngine 2 (engineIn .free .warm)).freeEngine = some 2
      ∧ ((asking .powered true .present).slot 0 = some (slot5 .queued)
        ∧ (asking .powered true .present).controllerOf 11 = some (entry89 .present 0)
        ∧ (11 : PortId).val - (entry89 .present 0).first < 12)
      ∧ (engineIn .free .cold).warmth = .cold ∧ ready.reference.present = true := by
  decide +kernel

theorem witness_RoutingTest :
    ((serving (.assigned 2) (engineIn .assigned .warm) PortCtx.reset).slot 0 = some (slot5 (.assigned 2))
        ∧ (slot5 (.assigned 2)).phase = .assigned 2)
      ∧ (((serving (.assigned 2) (engineIn .assigned .warm) PortCtx.reset).engine 2).warmth = .warm
        ∧ ((serving (.assigned 2) (engineIn .assigned .warm) PortCtx.reset).engine 2).duty = .assigned
        ∧ ((serving (.assigned 2) (engineIn .assigned .warm) PortCtx.reset).port 5).power = .none
        ∧ ((serving (.assigned 2) (engineIn .assigned .warm) PortCtx.reset).port 5).state ≠ .diagnose)
      ∧ ((serving (.assigned 2) (engineIn .assigned .warming) PortCtx.reset).engine 2).warmth ≠ .warm := by
  decide +kernel

/-- Slot 0 of port 5 in its hold wait. -/
def holdWait : State :=
  (port5 { PortCtx.reset with power := .holdPending, holdOwned := true }).setSlot 0
    (some { slot5 (.assigned 2) with holdTimer := some 500 })

/-- Port 5 in the exhausted wait with one QUEUED slot. -/
def exhaustedWait : State := serving .queued Engine.reset { inState .negotiate with awaiting := true, exhausted := true }

theorem witness_CompletionSteps :
    ((serving (.assigned 2) (engineIn .assigned .warm) PortCtx.reset).slot 0 = some (slot5 (.assigned 2))
        ∧ (slot5 (.assigned 2)).phase ≠ .complete ∧ (slot5 .queued).phase ≠ .complete)
      ∧ ready.link.mask.diagDone = true ∧ (⟨true, false, true, true⟩ : NoticeMask).diagDone = false
      ∧ (exhaustedWait.slot 0 = some (slot5 .queued) ∧ (exhaustedWait.port 5).state = .negotiate
        ∧ (exhaustedWait.port 5).awaiting = true
        ∧ ((List.finRange 32).all fun j => j == 0 || (exhaustedWait.slot j).isNone) = true
        ∧ (exhaustedWait.setSlot 1 (some (slot5 .queued))).slot 1 = some (slot5 .queued))
      ∧ (∀ d, ((serving (.assigned 2) (engineIn d .warm) PortCtx.reset).engine 2).duty = d)
      ∧ (∀ c, (serving (.assigned 2) (engineIn .assigned .warm) c).port 5 = c)
      ∧ ((holdWait.port 5).holdOwned = true ∧ (holdWait.port 5).power = .holdPending)
      ∧ (({ PortCtx.reset with power := .powered, holdOwned := true } : PortCtx).power ≠ .held
        ∧ ({ PortCtx.reset with power := .powered, holdOwned := true } : PortCtx).power ≠ .holdPending) :=
  ⟨by decide +kernel, by decide, by decide, by decide +kernel, fun d => by simp [serving, engineIn],
    fun c => by simp [serving, State.port, State.setEngine, State.setSlot, port5, State.setPort], by decide +kernel,
    by decide⟩

theorem witness_CompletionAndTheRecordStore :
    (serving .queued Engine.reset PortCtx.reset).slot 0 = some (slot5 .queued)
      ∧ (ready.passiveFor 5 .n16).kind = .passive
      ∧ (serving .queued Engine.reset PortCtx.reset).link.mask.diagDone = true := by decide +kernel

/-- R12, R99: the last slot of a port in the exhausted wait is cancelled; R27: a routed one's port leaves DIAGNOSE. -/
theorem test_completion_moves_the_port :
    ((exhaustedWait.completeCore 0 .cancelled none false).port 5).state = .faulted
      ∧ (((serving (.assigned 2) (engineIn .capturing .warm)
          { inState .diagnose with admin := .up, returnInfo := some ⟨.up, 0, .up, .none⟩ }).completeCore 0 .cancelled none
            false).port 5).state = .listen := by decide +kernel

/-- A trace set of port 5 without traces. -/
def set5 (held : Bool) : TraceSet :=
  { port := 5, seq := 1, kind := .full, traces := PerPair.all none, held := held, hold := if held then some 1000 else none
    stale := false }

/-- A Trace Store with one set of port 5, in slot 3. -/
def store5 (held : Bool) : RecordStore :=
  { State.reset.store with traces := State.reset.store.traces.set 3 (some (set5 held)), order := [3] }

theorem store5_traces (held : Bool) (j : TraceId) : (store5 held).traces[j] = if j = 3 then some (set5 held) else none := by
  match j with
  | 0 | 1 | 2 | 3 | 4 | 5 | 6 | 7 => rfl

theorem store5_law (held : Bool) : (store5 held).law := by
  refine ⟨fun i j t u hi hj _ _ => ?_, fun i t hi => ?_, by simp [store5], fun i => ?_⟩
  · rw [store5_traces] at hi hj
    split at hi <;> split at hj <;> simp_all
  · rw [store5_traces] at hi
    split at hi
    · have : t = set5 held := by simpa using hi.symm
      subst this
      cases held <;> simp [set5]
    · cases hi
  · rw [store5_traces]
    by_cases h : i = 3 <;> simp [h, store5]

/-- A Trace Store with a set in every slot, each of another port, held where `h` says so. -/
def fullStore (h : TraceId → Bool) : RecordStore :=
  { State.reset.store with
    traces := Vector.ofFn fun j => some { set5 (h j) with port := ⟨j.val, by omega⟩ }, order := List.finRange 8 }

theorem fullStore_law (h : TraceId → Bool) : (fullStore h).law := by
  have ht : ∀ i : TraceId, (fullStore h).traces[i] = some { set5 (h i) with port := ⟨i.val, by omega⟩ } := fun i => by
    simp [fullStore]
  refine ⟨fun i j t u hi hj hp _ => ?_, fun i t hi => ?_, List.nodup_finRange 8, fun i => ?_⟩
  · rw [ht] at hi hj
    cases hi; cases hj
    exact Fin.ext (Fin.mk.inj hp)
  · rw [ht] at hi
    cases hi
    cases hh : h i <;> simp [set5]
  · rw [ht]; simp [fullStore]

theorem witness_TraceWriteChoosesItsSlot :
    ((store5 false).law ∧ (store5 true).law)
      ∧ ((set5 false).held = false ∧ (set5 false).hold = none ∧ (set5 false).stale = false)
      ∧ (store5 false).freshOf 5 = some 3 ∧ (store5 false).freshOf 6 = none ∧ (store5 false).freeTrace = some 0
      ∧ ((store5 true).freshOf 5 = some 3 ∧ (store5 true).freeTrace = some 0 ∧ (set5 true).held = true)
      ∧ (∀ h, (fullStore h).law)
      ∧ ((fullStore fun j => decide (j < 3)).freeTrace = none
        ∧ (fullStore fun j => decide (j < 3)).order = [0, 1, 2] ++ 3 :: [4, 5, 6, 7]
        ∧ (fullStore fun j => decide (j < 3)).traces[(3 : TraceId)] = some { set5 false with port := 3 }
        ∧ (∀ m ∈ ([0, 1, 2] : List TraceId),
          ((fullStore fun j => decide (j < 3)).traces[m].map (·.held)) = some true)
        ∧ (fullStore fun j => decide (j < 3)).freshOf 47 = none
        ∧ (fullStore fun j => decide (j < 3)).freshOf 1 = some 1)
      ∧ ((fullStore fun _ => true).freeTrace = none ∧ (fullStore fun _ => true).freshOf 47 = none
        ∧ (fullStore fun _ => true).freshOf 7 = some 7) :=
  ⟨⟨store5_law _, store5_law _⟩, by decide, by decide +kernel, by decide +kernel, by decide +kernel, by decide +kernel,
    fullStore_law, by decide +kernel, by decide +kernel⟩

theorem witness_DiagCancel :
    ready.handlerFree ∧ 48 ≤ (48 : Byte).toNat ∧ (5 : Byte).toNat = (5 : PortId).val
      ∧ (ready.queuedSlot 5 = none ∧ ready.assignedSlot 5 = none)
      ∧ ((serving .queued Engine.reset PortCtx.reset).queuedSlot 5 = some 0
        ∧ (serving .queued Engine.reset PortCtx.reset).assignedSlot 5 = none)
      ∧ ((serving (.assigned 2) (engineIn .analysing .warm) PortCtx.reset).queuedSlot 5 = none
        ∧ (serving (.assigned 2) (engineIn .analysing .warm) PortCtx.reset).assignedSlot 5 = some 0
        ∧ ((serving (.assigned 2) (engineIn .capturing .warm) PortCtx.reset).engine 2).duty ≠ .analysing)
      ∧ (((serving (.assigned 2) (engineIn .assigned .warm) PortCtx.reset).setSlot 1 (some (slot5 .queued))).queuedSlot 5
          = some 1
        ∧ ((serving (.assigned 2) (engineIn .assigned .warm) PortCtx.reset).setSlot 1 (some (slot5 .queued))).assignedSlot 5
          = some 0) :=
  ⟨ready_free, by decide, by decide, by decide +kernel⟩

theorem witness_TracePagesAndHolds :
    ready.handlerFree ∧ 48 ≤ (48 : Byte).toNat ∧ 80 ≤ (80 : Byte).toNat ∧ (79 : Byte).toNat < 80
      ∧ ready.store.readable 5 = none
      ∧ (∀ held, { ready with store := store5 held }.store.readable 5 = some 3
        ∧ { ready with store := store5 held }.traceSlot 3 = some (set5 held))
      ∧ (set5 true).hold = some 1000 ∧ (set5 false).hold = none
      ∧ (∀ held, (store5 held).law ∧ (store5 held).traces[(3 : TraceId)] = some (set5 held))
      ∧ (set5 true).held = true ∧ (set5 false).stale = false
      ∧ (∀ (k : TraceId) u, (store5 false).traces[k] = some u → u.port ≠ 6)
      ∧ (79 < 80 ∧ 63 < 64 ∧ (1279 : Fin 1280).val = 79 % 20 * 64 + 63) := by
  refine ⟨ready_free, by decide, by decide, by decide, by decide +kernel, fun held => ?_, rfl, rfl,
    fun held => ⟨store5_law _, rfl⟩, rfl, rfl, fun k u h => ?_, by decide⟩
  · cases held <;> exact ⟨by decide +kernel, rfl⟩
  · rw [store5_traces] at h
    split at h
    · cases h; decide
    · cases h

/-- R161, R162: a page 0 request answered NOT_STORED holds the slot, and shows it as it stood when the request was taken. -/
theorem test_not_stored_page_reads_before_the_hold :
    let x := { ready with store := store5 false }.serveTracePage 5 0
    (x.2.status, x.2.data.drop 12, (x.1.traceSlot 3).map (·.held)) = (.notStored, [0, 0xFF, 0xFF], some true) := by
  decide +kernel

theorem witness_LaneWordsDecode :
    (0 : Byte).toNat = Rate.r10G.code ∧ (4 : Byte).toNat = Rate.r100M.code ∧ 5 ≤ (5 : Byte).toNat
      ∧ (8 ≤ (0x18 : Byte).toNat % 16 ∧ (0x18 : Byte).toNat / 16 ≠ 8) ∧ (0x07 : Byte).toNat / 16 = 0
      ∧ 9 ≤ (0x90 : Byte).toNat / 16
      ∧ ((ready.setLane 5 { Lane.reset with up := true }).lane (laneOf 47)).up = true ∧ (ready.lane (laneOf 47)).up = false
      ∧ (((0x65 : Byte).toNat / 16, 8) ∈ [(1, 1), (2, 1), (3, 1), (4, 0), (5, 0), (6, 8), (7, 2), (8, 1)]
        ∧ ([] : List Byte).length ≠ 8) := by decide

/-- Lane 0 UP with a FIFO. -/
def lane0 (fifo : List Report) : State :=
  ready.setLane 0 { up := true, watch := some 300, fifo := fifo, ready := decide (fifo.length < 16), sent := [] }

theorem witness_LaneReportArrival :
    laneWordOfBytes [0] = none ∧ laneWordOfBytes [0x80, 1] = some (.alive 1)
      ∧ laneWordOfBytes [0x40] = some (.report (.loss 0))
      ∧ laneWordOfBytes [0x60, 0, 1, 0, 1, 0, 1, 0, 1] = some (.report (.margin 0 (PerPair.mk 1 1 1 1)))
      ∧ (ready.lane 0).up = false ∧ ((lane0 []).lane 0).up = true
      ∧ ((lane0 [.loss 1, .margin 0 (PerPair.all 5)]).lane 0).fifo = [.loss 1] ++ .margin 0 (PerPair.all 5) :: []
      ∧ ((lane0 (List.replicate 14 (.loss 1))).lane 0).fifo.length < 15
      ∧ ((lane0 (List.replicate 15 (.loss 1))).lane 0).fifo.length = 15
      ∧ 16 ≤ ((lane0 (List.replicate 16 (.loss 1))).lane 0).fifo.length := by decide +kernel

theorem witness_LaneAliveWatch :
    (0 : Byte) ≠ 1 ∧ (3 : Byte) ≠ 2 ∧ ((lane0 []).lane 0).up = true ∧ (ready.lane 0).up = false
      ∧ ((lane0 []).lane 0).watch = some 300 ∧ (ready.lane 0).watch = none := by decide +kernel

theorem taking_fifo (r : Report) (c : PortCtx) : ((taking r c).lane 0).fifo = r :: [] := by simp [taking]

theorem taking_port (r : Report) (c : PortCtx) : (taking r c).port (portAt 0 5) = c := by
  have h : (taking r c).ports = (port5 c).ports := rfl
  rw [State.port_congr h]
  exact State.port_setPort ready 5 c

theorem witness_EnergyReportTaken (e : Bool) :
    ((taking (.energy 5 e) (inState .diagnose)).lane 0).fifo = .energy 5 e :: []
      ∧ (∀ c, (taking (.energy 5 e) c).port (portAt 0 5) = c) ∧ (inState .up).inBringUp
      ∧ (inState .listen).state = .listen ∧ (inState .faulted).state ≠ .diagnose ∧ ¬(inState .faulted).inBringUp :=
  ⟨taking_fifo _ _, taking_port _, by simp [PortCtx.inBringUp, inState], rfl, by decide,
    by simp [PortCtx.inBringUp, inState]⟩

theorem witness_PartnerReportTaken :
    (∀ rates c, ((taking (.partner 5 rates) c).lane 0).fifo = .partner 5 rates :: [])
      ∧ ((inState .negotiate).state = .negotiate ∧ (inState .negotiate).awaiting = false)
      ∧ (inState .negotiate).choose Profile.default (PerRate.all true) = some .r10G
      ∧ (inState .negotiate).choose Profile.default (PerRate.all false) = none ∧ (inState .up).state ≠ .negotiate :=
  ⟨fun _ _ => taking_fifo _ _, by decide, by decide, by decide, by decide⟩

theorem witness_LockLossRestoreTaken :
    (∀ r c, ((taking r c).lane 0).fifo = r :: []) ∧ (∀ r c, (taking r c).port (portAt 0 5) = c)
      ∧ (∀ st r, ({ inState st with candidate := some r, current := some r } : PortCtx).candidate = some r)
      ∧ Rate.r5G ≠ .r1G ∧ ({ inState .up with glitch := some 4 } : PortCtx).glitch ≠ none ∧ (inState .up).glitch = none :=
  ⟨taking_fifo, taking_port, fun _ _ => rfl, by decide, by decide, by decide⟩

theorem witness_MarginAndLossEstTaken :
    (∀ r c, ((taking r c).lane 0).fifo = r :: []) ∧ (∀ r c, (taking r c).port (portAt 0 5) = c)
      ∧ ({ inState .verify with samples := 14, current := some .r10G } : PortCtx).samples + 1 < Policy.default.k
      ∧ Policy.default.k ≤ ({ inState .verify with samples := 15, current := some .r10G } : PortCtx).samples + 1
      ∧ (Rate.r10G.pass ≤ (480 : Int).fdiv 16 ∧ (479 : Int).fdiv 16 < Rate.r10G.pass)
      ∧ (Rate.r10G.pass - 10 ≤ 20 ∧ (19 : Int) < Rate.r10G.pass - 10)
      ∧ (({ inState .up with lowStreak := 6 } : PortCtx).lowStreak < 7
        ∧ 7 ≤ ({ inState .up with lowStreak := 7 } : PortCtx).lowStreak)
      ∧ (inState .listen).state ≠ .verify ∧ (inState .listen).state ≠ .up :=
  ⟨taking_fifo, taking_port, by decide⟩

theorem port5_port (c : PortCtx) : (port5 c).port 5 = c := by simp [port5]

theorem witness_PortTimerExpiries :
    (∀ c, (port5 c).port 5 = c) ∧ (∀ c, (port5 c).runOutMs 0 = port5 c) ∧ PortCtx.reset.attempt = none
      ∧ ({ inState .train with candidate := some .r1G, attempt := some 0 } : PortCtx).candidate = some .r1G
      ∧ ({ inState .negotiate with negFails := 1, attempt := some 0 } : PortCtx).negFails < 2
      ∧ 2 ≤ ({ inState .negotiate with negFails := 2, attempt := some 0 } : PortCtx).negFails
      ∧ PortCtx.reset.glitch = none
      ∧ ({ inState .up with glitch := some 0, flapCount := 3 } : PortCtx).flapCount + 1 < Policy.default.flapLimit
      ∧ Policy.default.flapLimit ≤ ({ inState .up with glitch := some 0, flapCount := 4 } : PortCtx).flapCount + 1
      ∧ ({ inState .holddown with holddown := some 0 } : PortCtx).state = .holddown
      ∧ ({ inState .diagnose with holddown := some 0 } : PortCtx).state = .diagnose
      ∧ ({ inState .faulted with recheck := some 0 } : PortCtx).state = .faulted :=
  ⟨port5_port, fun _ => rfl, rfl, rfl, by decide, by decide, rfl, by decide, by decide, rfl, rfl, rfl⟩

/-- A port in DIAGNOSE that came from a state. -/
def diagnosed (a : Admin) (from_ : PortState) (ex : Bool) (hold : Timer) : PortCtx :=
  { inState .diagnose with
    admin := a, exhausted := ex, holddown := hold
    returnInfo := some { admin := a, holddown := 0, state := from_, cause := .loss } }

theorem witness_ExitFromDiagnose :
    (∀ c, (port5 c).port 5 = c)
      ∧ (∀ a f ex h, (diagnosed a f ex h).state = .diagnose ∧ (diagnosed a f ex h).admin = a
        ∧ (diagnosed a f ex h).exhausted = ex ∧ (diagnosed a f ex h).holddown = h
        ∧ (diagnosed a f ex h).returnInfo = some { admin := a, holddown := 0, state := f, cause := .loss })
      ∧ 0 < (some 1 : Timer).getD 0 ∧ (some 0 : Timer).getD 0 = 0
      ∧ ((none : Option LengthEstimate) ≠ none → (none : Option Verdict) ≠ none)
      ∧ ((some { cm := 99, source := .tdrEnd } : Option LengthEstimate) ≠ none → some Verdict.noCable ≠ none) :=
  ⟨port5_port, fun _ _ _ _ => ⟨rfl, rfl, rfl, rfl, rfl⟩, by decide, by decide, by simp, by simp⟩

/-- R27, R68, R29: a FAULT verdict latches the pending policy, and the recheck timer runs for its recheck_s. -/
theorem test_faulted_exit_latches :
    let t := (port5 { diagnosed .up .up false none with
      pendingPolicy := some { Policy.default with recheckS := 20 } }).exitDiagnose 5 (some .fault) none
    ((t.port 5).state, (t.port 5).recheck, (t.port 5).active.recheckS, t.link.transmitter == .notice (t.portChangeOf 5)) =
      (.faulted, some 20000, 20, true) := by decide +kernel

/-- A stage of zeros. -/
def stage0 (p : Pair) : Stage := { pair := p, traces := PerPair.all Trace.zero, clip := PerPair.all false }

/-- A job of one stage. -/
def job0 : Job :=
  { kind := .pair .A, a0 := 400, lowLaunch := false
    snapshot := { index := 0, profile := Profile.default, launchOffset := 40 }
    stages := [{ pair := .A, capture := PerPair.all Trace.zero, baseline := PerPair.all Trace.zero
                 clip := PerPair.all false }] }

/-- Engine 2 ANALYSING for slot 0. -/
def analysing : State := (serving (.assigned 2) { engineIn .analysing .warm with step := some 100 } PortCtx.reset).setJob 2 (some job0)

theorem serving_engine (ph : Phase) (e : Engine) (c : PortCtx) : (serving ph e c).engine 2 = e := by simp [serving]

theorem witness_SchedulerAndEngineTimers :
    (holdWait.slot 0 = some { slot5 (.assigned 2) with holdTimer := some 500 } ∧ (holdWait.port 5).power = .holdPending)
      ∧ (∀ ph e c, (serving ph e c).engine 2 = e)
      ∧ (({ engineIn .free .warm with idle := some 2000 } : Engine).idle = some 2000)
      ∧ (({ engineIn .recovering .warm with step := some 50 } : Engine).step = some 50)
      ∧ (analysing.slotOfEngine 2 = some 0 ∧ analysing.slot 0 = some (slot5 (.assigned 2)))
      ∧ analysing.job 2 = some job0
      ∧ ({ engineIn .assigned .warming with warmup := some 20 } : Engine).stages = []
      ∧ ({ engineIn .assigned .warming with
            warmup := some 20, stages := [stage0 .A, stage0 .B, stage0 .C, stage0 .D] } : Engine).stages =
          [stage0 .A, stage0 .B, stage0 .C, stage0 .D] := by
  refine ⟨by decide +kernel, serving_engine, rfl, rfl, by decide +kernel, ?_, rfl, rfl⟩
  simp [analysing]

theorem witness_MergesAndGrantOrder :
    (slot5 .queued).kind = .full ∧ ({ slot5 .queued with kind := .pair .B } : Slot).kind = .pair .B
      ∧ ({ slot5 .queued with kind := .quick } : Slot).kind = .quick
      ∧ (ready.setSlot 31 (some (slot5 .queued))).slot 31 = some (slot5 .queued) := by
  refine ⟨rfl, rfl, rfl, by simp⟩

/-- Engine 2 CAPTURING pair A with a number of launches made. -/
def launching (n : Nat) : Engine :=
  { engineIn .capturing .warm with
    pulsePair := some .A, averaging := some .n16, launched := n, repetition := some 2000, a0 := some 400
    snapshot := some { index := 0, profile := Profile.default, launchOffset := 40 }
    baselines := some (PerPair.all (PerPair.all Trace.zero)) }

theorem witness_CaptureSteps :
    ((serving (.assigned 2) (launching 15) PortCtx.reset).slotOfEngine 2 = some 0
        ∧ (serving (.assigned 2) (launching 15) PortCtx.reset).slot 0 = some (slot5 (.assigned 2)))
      ∧ (∀ ph e c, (serving ph e c).engine 2 = e) ∧ (engineIn .routing .warm).warmth ≠ .warming
      ∧ (engineIn .routing .warm).stages = []
      ∧ ({ launching 0 with step := some 20 } : Engine).pulsePair = some .A
      ∧ ((launching 15).launched < Averaging.n16.toNat ∧ Averaging.n16.toNat ≤ (launching 16).launched)
      ∧ ((launching 16).averaging = some .n16 ∧ (launching 16).a0 = some 400 ∧ (launching 16).repetition = some 2000)
      ∧ [Pair.A, .B, .C, .D].drop 4 = []
      ∧ (∀ n, ({ launching n with warmth := .warming, duty := .free } : Engine).warmth = .warming
        ∧ ({ launching n with warmth := .warming, duty := .free } : Engine).launched = n)
      ∧ 63 < 64 ∧ [Pair.A, .B, .C, .D].drop 1 = .B :: [.C, .D] := by
  refine ⟨by decide +kernel, serving_engine, by decide, rfl, rfl, by decide, ⟨rfl, rfl, rfl⟩, rfl, fun _ => ⟨rfl, rfl⟩,
    by decide, rfl⟩

theorem witness_EchoArithmetic :
    (200 ≤ 200 ∧ 200 ≤ 511 ∧ 50 ≤ 50 ∧ 50 ≤ 500) ∧ kindOf (rhoOf 20 3000 400) 150 600 ≠ none ∧ 10000 ≤ 17248
      ∧ (2 * (2 * 250 - 250 - 250) ≤ (0 : Int) ∧ (0 : Int) < 2 * (2 * 300 - 180 - 260))
      ∧ (2 * (roundHalfAway 1 2 * 2 - 1).natAbs = (2 : Int).natAbs) := by decide

/-- A PAIR job whose pair A shows the echo of section 7.4 and whose channel B shows a strong coupling. -/
def echoStage : JobStage :=
  { pair := .A
    capture := { PerPair.all Trace.zero with
      a := ((Trace.zero.set 486 180).set 487 300).set 488 260, b := Trace.zero.set 400 (-300) }
    baseline := PerPair.all Trace.zero, clip := PerPair.all false }

def echoJob : Job :=
  { kind := .pair .A, a0 := 400, lowLaunch := false
    snapshot := { index := 0, profile := Profile.default, launchOffset := 38 }, stages := [echoStage] }

/-- R139, R142: the echo of the worked case is the pair's one own finding, and the coupling a CROSS_SHORT. -/
theorem witness_EchoSearchAndCrossShorts :
    echoJob.snapshot.launchOffset ≤ 255
      ∧ (ownEchoes echoJob echoStage).map (fun e => (e.origin, e.finding.distance, e.finding.rho)) = [(487, 4941, 972)]
      ∧ (measureStage echoJob echoStage).all.map (·.kind) = [.crossShort, .openEnd]
      ∧ ownEchoes job0 { echoStage with capture := PerPair.all Trace.zero } = []
      ∧ (Pair.B ≠ echoStage.pair ∧ (crossPeak 38 (Trace.zero.set 400 (-300))).index = 400) := by
  decide +kernel

theorem witness_FindingsListLaw : job0.snapshot.profile.inRange ∧ job0.snapshot.launchOffset ≤ 255 :=
  ⟨witness_PolicyRecords.2.2, by decide⟩

/-- The stage of the echo with nothing on the other channels, alone in its job. -/
def openJob : Job :=
  { echoJob with stages := [{ echoStage with capture := { echoStage.capture with b := Trace.zero } }] }

/-- R146: an OPEN alone makes the cable UNTERMINATED, its pair END; without findings the verdict is OK. -/
theorem witness_VerdictAndLength :
    (job0.stages.map fun g => g.pair).Nodup ∧ (openJob.stages.map fun g => g.pair).Nodup ∧ openJob.stages ≠ []
      ∧ ((analyse openJob .n16).verdict = .unterminated
        ∧ (analyse openJob .n16).length = some { cm := 4941, source := .tdrEnd }
        ∧ (analyse openJob .n16).pairs.a.status = some .endOfCable)
      ∧ (analyse job0 .n16).verdict = .ok ∧ job0.stages ≠ [] ∧ PortCtx.reset.lastMargins = none
      ∧ (∀ m, ({ PortCtx.reset with lastMargins := some m } : PortCtx).lastMargins = some m) :=
  ⟨by decide, by decide, by simp [openJob], by decide +kernel, by decide +kernel, by simp [job0], rfl, fun _ => rfl⟩

/-- The reference ABSENT. -/
def absent (q : Timer) : State := { ready with reference := { present := false, qualify := q, losses := 1 } }


theorem reset_matrixLaw : ready.matrixLaw ∧ ready.tableLaw := by
  have hs : ∀ i, ready.slot i = none := fun i => by simp [State.slot, ready, State.reset, State.resetWith]
  have hr : ∀ p, ready.route p = .transceiver := fun p => by simp [State.route, ready, State.reset, State.resetWith]
  refine ⟨⟨fun p q e h => ?_, fun p e h => ?_, fun i j x y e h => ?_, fun i x e h => ?_⟩, fun i j x y h => ?_⟩
  · simp [hr] at h
  · simp [hr] at h
  · simp [hs] at h
  · simp [hs] at h
  · simp [hs] at h

/-- Engine 2 CAPTURING for slot 0 of port 5. -/
def capturing : State := serving (.assigned 2) (launching 15) (inState .diagnose)

theorem capturing_slot (i : SlotId) (x : Slot) (h : capturing.slot i = some x) : i = 0 ∧ x = slot5 (.assigned 2) := by
  by_cases h0 : i = 0
  · subst h0
    refine ⟨rfl, ?_⟩
    have : capturing.slot 0 = some (slot5 (.assigned 2)) := by decide +kernel
    rw [this] at h
    exact (Option.some.inj h).symm
  · have hn : (0 : SlotId).val ≠ i.val := fun e => h0 (Fin.ext e.symm)
    have hn' : ¬0 = i.val := hn
    simp [State.slot, capturing, serving, State.setEngine, State.setSlot, port5, State.setPort, ready, State.reset,
      State.resetWith, hn'] at h

theorem capturing_laws : capturing.matrixLaw ∧ capturing.tableLaw := by
  have hr : ∀ p, capturing.route p = .transceiver := fun p => by
    simp [State.route, capturing, serving, State.setEngine, State.setSlot, port5, State.setPort, ready, State.reset,
      State.resetWith]
  refine ⟨⟨fun p q e h => ?_, fun p e h => ?_, fun i j x y e hi hj _ _ => ?_, fun i x e hi he => ?_⟩,
    fun i j x y hi hj _ _ => ?_⟩
  · simp [hr] at h
  · simp [hr] at h
  · rw [(capturing_slot i x hi).1, (capturing_slot j y hj).1]
  · obtain ⟨-, rfl⟩ := capturing_slot i x hi
    cases he
    exact .inr (.inr (.inl (by simp [capturing, serving, launching, engineIn])))
  · rw [(capturing_slot i x hi).1, (capturing_slot j y hj).1]

theorem witness_ReferenceMonitor :
    (absent none).reference.present = false ∧ (absent none).reference.qualify = none
      ∧ (absent (some 1)).reference.qualify = some 1 ∧ ready.reference.present = true
      ∧ (capturing.matrixLaw ∧ capturing.tableLaw) ∧ capturing.reference.present = true
      ∧ capturing.slot 0 = some (slot5 (.assigned 2)) ∧ (capturing.engine 2).duty = .capturing
      ∧ capturing.link.mask.diagDone = true ∧ capturing.slotOfEngine 2 = some 0
      ∧ ((capturing.setSlot 0 none).slotOfEngine 2 = none ∧ ((capturing.setSlot 0 none).engine 2).duty = .capturing)
      ∧ ((ready.engine 0).duty ≠ .routing ∧ (ready.engine 0).duty ≠ .capturing) := by
  refine ⟨rfl, rfl, rfl, rfl, capturing_laws, rfl, by decide +kernel, by decide +kernel, rfl, by decide +kernel,
    by decide +kernel, by decide +kernel⟩

theorem witness_PowerMapReplacement :
    ready.handlerFree
      ∧ ([⟨8, 0, 12⟩, ⟨119, 36, 12⟩, ⟨89, 12, 1⟩] : List RawMapEntry).length ≤ 6
      ∧ (∀ m ∈ ([⟨8, 0, 12⟩, ⟨119, 36, 12⟩, ⟨89, 12, 1⟩] : List RawMapEntry),
          8 ≤ m.address.toNat ∧ m.address.toNat ≤ 119 ∧ m.address.toNat ≠ Straps.ownAddress ready.straps
            ∧ 1 ≤ m.count.toNat ∧ m.count.toNat ≤ 12 ∧ m.first.toNat + m.count.toNat ≤ 48)
      ∧ ([⟨8, 0, 12⟩, ⟨119, 36, 12⟩, ⟨89, 12, 1⟩] : List RawMapEntry).Pairwise (fun x y => x.address ≠ y.address
          ∧ (x.first.toNat + x.count.toNat ≤ y.first.toNat ∨ y.first.toNat + y.count.toNat ≤ x.first.toNat))
      ∧ ¬((List.replicate 83 (⟨8, 0, 12⟩ : RawMapEntry)).length ≤ 6) :=
  ⟨ready_free, by decide +kernel⟩

theorem witness_PowerEventsAndFailedHolds :
    (serving (.assigned 2) (engineIn .assigned .warm) PortCtx.reset).assignedSlot 5 = some 0
      ∧ ready.assignedSlot 5 = none ∧ (holdWait.assignedSlot 5 = some 0 ∧ (holdWait.port 5).holdOwned = true)
      ∧ ((holdWait.port 5).power = .holdPending ∧ PowerState.holdPending ≠ .held)
      ∧ (∀ c, (port5 c).port 5 = c) :=
  ⟨by decide +kernel, by decide +kernel, by decide +kernel, by decide +kernel, port5_port⟩

theorem witness_OutboundQueueFolding :
    ([out89 .hold 1 .ready, out89 .release 0 .ready].Pairwise fun x y => ¬(x.address = y.address ∧ x.kind = y.kind))
      ∧ (out89 .release 0 .ready).mask &&& ~~~(1 : PortMask) ≠ 0 ∧ (out89 .release 0 .ready).mask &&& ~~~(32 : PortMask) = 0
      ∧ (attempting .release 0 (entry89 .present 0)).bus.inAttempt 89 .release = true
      ∧ (∃ x ∈ (attempting .hold 0 (entry89 .present 0)).bus.queue, x.address = 89 ∧ x.kind = .hold)
      ∧ ¬(∃ x ∈ ready.bus.queue, x.address = 89 ∧ x.kind = .hold) ∧ ready.bus.attempt = none
      ∧ (attempting .poll 0 (entry89 .present 0)).bus.attempt = some (attempt89 .poll false) := by decide

theorem witness_BusConditionsAndAttemptStart :
    (∀ ph r, (busIn ph [out89 .hold 1 r]).bus.queue = out89 .hold 1 r :: [] ∧ (busIn ph [out89 .hold 1 r]).bus.phase = ph
        ∧ (out89 .hold 1 r).retry = r)
      ∧ ((busIn .idle []).bus.queue = [] ∧ (busIn .idle []).bus.phase = .idle) :=
  ⟨fun _ _ => ⟨rfl, rfl, rfl⟩, rfl, rfl⟩

theorem attempting_attempts (k : TxKind) (n : Nat) (m : MapEntry) :
    (attempting k n m).bus.attempts (attempt89 k false)
      (out89 k n .ready) [] := ⟨rfl, rfl, rfl, rfl, rfl, rfl⟩

/-- A HOLD of ports 5 and 6 in attempt. Port 5 waits in it with engine 0; port 6 has left the mask and is POWERED, with a
QUEUED slot; the other engines are busy. -/
def leavingMask : State :=
  let may : Policy := { Policy.default with depowerAllowed := true }
  ((((busyEngines ((attempting .hold 0 (entry89 .present 0)).modBus fun b =>
      { b with attempt := some { attempt89 .hold false with sent := 96 } })).setEngine 0 (engineIn .assigned .cold)).setPort 5
    { PortCtx.reset with power := .holdPending, holdOwned := true, active := may }).setPort 6
    { PortCtx.reset with power := .powered, active := may }).setSlot 0 (some (slot5 (.assigned 0))) |>.setSlot 1
    (some { slot5 .queued with port := 6 })

/-- R172: the scan of port 5's failure grants port 6 a new hold, which R94 does not fail. -/
theorem test_port_that_left_the_mask_is_not_failed :
    (match exec .dataNack leavingMask with
      | .next t => (t.slot 0).map (·.outcome) == some (some .powerHoldRefused) && (t.port 6).power == .holdPending
          && (t.slot 1).map (·.phase) == some (.assigned 0)
      | _ => false) = true := by decide +kernel

/-- An attempt whose map was replaced. -/
def orphaned (k : TxKind) : State := ready.setBus { Bus.reset with phase := .master, attempt := some (attempt89 k true) }

theorem witness_TransactionOutcomes :
    (∀ k n m, (attempting k n m).bus.attempts (attempt89 k false)
        (out89 k n .ready) [])
      ∧ (∀ k n pr c, (attempting k n (entry89 pr c)).entryAt 89 = some (entry89 pr c))
      ∧ (entry89 .present 1).nacks + 1 < 3 ∧ 3 ≤ (entry89 .present 2).nacks + 1 ∧ (entry89 .lost 2).presence = .lost
      ∧ (0 : PortId).val = 0 + 0 ∧ (47 : PortId).val = 36 + 11 ∧ ready.bus.phase ≠ .master
      ∧ (∀ k, (List.replicate 12 (0 : Byte)).length = (attempt89 k false).count
        ∧ (List.replicate 11 (0 : Byte)).length ≠ (attempt89 k true).count)
      ∧ (∀ k, (orphaned k).bus.phase = .master ∧ (orphaned k).bus.attempt = some (attempt89 k true)
        ∧ (attempt89 k true).orphan = true) :=
  ⟨attempting_attempts, fun _ _ _ _ => rfl, by decide, by decide, rfl, rfl, rfl, by decide,
    fun _ => ⟨rfl, by simp [attempt89]⟩, fun _ => ⟨rfl, rfl, rfl⟩⟩

/-- The part stretches the clock. -/
def stretching (n : Nat) : State := ready.setBus { Bus.reset with phase := .busy, slave := .stretching false n }

theorem witness_ArbitrationStuckBusAndRePoll :
    (∀ k n m, (attempting k n m).bus.attempts (attempt89 k false)
        (out89 k n .ready) [] ∧ ∀ g c, (attempting k n m).bus.slave ≠ .stretching g c)
      ∧ ((busIn .idle []).bus.slave = .aside ∧ (stretching 10).bus.slave = .stretching false 10)
      ∧ ((out89 .hold 6 .ready).losses < 7 ∧ 7 ≤ (out89 .hold 7 .ready).losses)
      ∧ ((busIn .idle []).bus.phase ≠ .stuck ∧ (busIn .idle []).bus.attempt = none ∧ (busIn .stuck []).bus.phase = .stuck)
      ∧ ((busIn .stuck []).bus.map.Pairwise fun m n => m.address ≠ n.address)
      ∧ ((orphaned .hold).bus.phase = .master ∧ (orphaned .hold).bus.attempt = some (attempt89 .hold true))
      ∧ ((ready.setBus { Bus.reset with map := [entry89 .unseen 0] }).bus.map[(0 : Fin 6).val]? = some (entry89 .unseen 0)
        ∧ (entry89 .unseen 0).presence ≠ .present ∧ (entry89 .unseen 0).rePoll = some 1000)
      ∧ ready.bus.map[(5 : Fin 6).val]? = none :=
  ⟨fun k n m => ⟨attempting_attempts k n m, fun _ _ h => by cases h⟩, ⟨rfl, rfl⟩, by decide, by decide, by decide,
    by decide, by decide, by decide⟩

/-- R180: nothing is declared while the part itself holds the clock low. -/
theorem test_own_stretch_is_no_stuck_bus :
    (match exec (.stuckBus false) (stretching 10) with
      | .next t => t.bus == (stretching 10).bus && t.link.notices == []
      | _ => false) = true := by decide +kernel

/-- The slave side in a transfer, with a number of waiting events. -/
def slaveIn (sl : Slave) (n : Nat) : State :=
  ready.setBus { Bus.reset with
    phase := .busy, slave := sl, map := [entry89 .present 0], inbound := List.replicate n (.event 89 0 .off) }

theorem witness_SlaveSide :
    (∀ sl n, (slaveIn sl n).bus.phase = .busy ∧ (slaveIn sl n).bus.slave = sl)
      ∧ ((slaveIn .listening 3).bus.inbound.length < 4 ∧ 4 ≤ (slaveIn .listening 4).bus.inbound.length)
      ∧ (176 : Byte).toNat = 2 * Straps.ownAddress ready.straps
      ∧ ((177 : Byte) ≠ 0 ∧ (177 : Byte).toNat ≠ 2 * Straps.ownAddress ready.straps)
      ∧ ((slaveIn (.event []) 0).entryAt (89 : Byte).toNat = some (entry89 .present 0)
        ∧ (entry89 .present 0).count ≤ (12 : Byte).toNat ∧ (11 : Byte).toNat < (entry89 .present 0).count)
      ∧ (∀ m ∈ (slaveIn (.event []) 0).bus.map, m.address ≠ (90 : Byte).toNat)
      ∧ ((slaveIn (.event [89]) 0).bus.slave = .event [89] ∧ (slaveIn (.event [89, 11]) 0).bus.slave = .event [89, 11])
      ∧ (PowerState.ofEventCode (0 : Byte).toNat = none ∧ PowerState.ofEventCode (6 : Byte).toNat = none
        ∧ PowerState.ofEventCode (5 : Byte).toNat = some .fault)
      ∧ (ready.bus.inbound = [] ∧ (slaveIn (.stretching false 10) 4).bus.inbound = .event 89 0 .off :: List.replicate 3 (.event 89 0 .off))
      ∧ (∀ m ∈ (slaveIn .aside 1).bus.map, m.count ≤ 12) :=
  ⟨fun _ _ => ⟨rfl, rfl⟩, by decide, by decide, by decide, by decide, by decide, by decide, by decide, by decide, by decide⟩

theorem witness_PayloadLengthsAndNoticeFields :
    (1 ≤ (0x01 : Byte).toNat ∧ (0x11 : Byte).toNat ≤ 0x11)
      ∧ (ready.serve .powerQuery).2.status = .ok ∧ (ready.serve (.diagRequest 5 3 0 0 1 0 1)).2.status = .accepted
      ∧ (analysing.serve (.diagCancel 5)).2.status = .notCancelled
      ∧ (ready.serve (.cableQuery 5)).2.status = .notStored ∧ (ready.serve (.portQuery 48)).2.status = .badField
      ∧ (done5.receipt = none ∧ 3 < 4 ∧ ([7, 8, 9, 10] : List Nat)[3]? = some 10 ∧ done5.tags[0]? = none)
      ∧ ({ done5 with receipt := some { seq := 1, verdict := .ok, traceDropped := true } } : DiagDone).receipt.isSome =
        true := by
  decide +kernel

/-- R204: the payload of a DIAG_DONE with one tag, written out from the table. -/
theorem test_diag_done_bytes :
    (Notice.diagDone 0 { done5 with tags := [0x1234], engine := some 2 }).payload =
      [5, 0, 0, 0, 0, 1, 0, 0xFF, 1, 16, 1, 2, 0, 0, 0, 0, 0, 0xFF, 0, 0, 0, 0, 1, 0x12, 0x34, 0, 0, 0, 0, 0, 0] := by
  decide +kernel

/-- A record whose pair A holds four findings. -/
def findings4 : List Finding :=
  List.replicate 4 { pair := .A, kind := .highImpedance, distance := 100, rho := 200, saturated := false, partner := none }

theorem witness_ReplyFields :
    (ready.port 47).pendingPolicy = none
      ∧ ({ PortCtx.reset with pendingPolicy := some Policy.default } : PortCtx).pendingPolicy = some Policy.default
      ∧ 2 < 3 ∧ 4 < 5 ∧ findings4[2]?.isSome = true ∧ ([] : List Finding)[0]? = none := by decide

theorem witness_TableReplyFields :
    (ready.setSlot 31 (some (slot5 .queued))).tableList[0 + 0]? = some (slot5 .queued) ∧ 11 < 12
      ∧ (busIn .idle [out89 .hold 1 .ready]).bus.queue[0]? = some (out89 .hold 1 .ready)
      ∧ (busIn .idle []).bus.map[0]? = some (entry89 .present 0) := by
  decide +kernel

theorem ready_step : ∃ t, step ready = .next t := ⟨_, rfl⟩

theorem ready_port (p : PortId) : ready.port p = PortCtx.reset := by simp [State.port, ready, State.reset, State.resetWith]

theorem ready_lane (l : LaneId) : ready.lane l = Lane.reset := by simp [State.lane, ready, State.reset, State.resetWith]

theorem ready_slot (i : SlotId) : ready.slot i = none := by simp [State.slot, ready, State.reset, State.resetWith]

theorem witness_RequestTableAndMatrixLawsKept :
    ready.tableLaw ∧ ready.matrixLaw ∧ ready.holdLaw ∧ ready.inboundLaw ∧ ∃ t, step ready = .next t :=
  ⟨reset_matrixLaw.2, reset_matrixLaw.1, fun p h => by simp [ready_port, PortCtx.reset] at h,
    fun x h => by simp [ready, State.reset, State.resetWith, Bus.reset] at h, ready_step⟩

theorem ready_engine (e : EngineId) : ready.engine e = Engine.reset := by
  simp [State.engine, ready, State.reset, State.resetWith]

theorem ready_job (e : EngineId) : ready.job e = none := by simp [State.job, ready, State.reset, State.resetWith]

theorem witness_EngineLawKept : ready.engineLaw ∧ ∃ t, step ready = .next t := by
  refine ⟨fun e => ?_, ready_step⟩
  rw [ready_engine, ready_job]
  simp [Engine.law, Duty.serves, Engine.reset]

theorem witness_PortLawsKept : ready.portLaw ∧ ∃ t, step ready = .next t := by
  refine ⟨fun p => ?_, ready_step⟩
  rw [ready_port]
  refine ⟨?_, ?_, ?_⟩
  · unfold PortCtx.limitLaw Policy.inRange
    exact ⟨by decide, fun q h => (by cases h), fun r => (by cases r <;> decide), by decide⟩
  · intro h; simp [PortCtx.reset] at h
  · unfold PortCtx.timerLaw; decide

theorem witness_TraceStoreLawKept : ready.store.law ∧ (store5 true).law ∧ ∃ t, step ready = .next t := by
  have ht : ∀ i : TraceId, ready.store.traces[i] = none := fun i => by simp [ready, State.reset, State.resetWith]
  refine ⟨⟨fun i j t u h => ?_, fun i t h => ?_, by simp [ready, State.reset, State.resetWith], fun i => ?_⟩,
    store5_law _, ready_step⟩
  · simp [ht] at h
  · simp [ht] at h
  · simp [ht]
    simp [ready, State.reset, State.resetWith]

theorem witness_NoticeQueueLawKept : ready.noticeLaw ∧ ∃ t, step ready = .next t := by
  refine ⟨⟨by decide, by decide, by decide, fun i => ⟨fun h => ?_, fun ⟨x, h, _⟩ => ?_⟩⟩, ready_step⟩
  · exact absurd h (by simp [Link.reporting, ready, State.reset, State.resetWith, Link.reset])
  · simp [ready_slot] at h

theorem witness_TableAndQueueBoundsKept :
    (ready.profileLaw ∧ ready.laneLaw ∧ ready.queueLaw ∧ ready.mapLaw) ∧ ∃ t, step ready = .next t := by
  refine ⟨⟨fun i => ?_, fun l => ?_, ⟨by decide, by decide, fun h => ?_, by decide⟩, by decide, by decide, by decide⟩,
    ready_step⟩
  · have : ready.profiles[i] = Profile.default := by simp [ready, State.reset, State.resetWith]
    rw [this]; exact witness_PolicyRecords.2.2
  · rw [ready_lane]; exact ⟨by decide, by decide, by decide, by decide, by decide⟩
  · rcases h with h | ⟨_, h⟩ <;> cases h

end Sys2Proof.Tests
end

section
/-! PROOFS. The lane links: a report that arrives at a lane's FIFO (R35 to R38), and the ALIVE watch with the lanes that go
UP and DOWN (R44 to R47, R23). -/

namespace Sys2Proof.Machine

/-! ### What the three commands run -/

theorem exec_laneReportArrival (l : LaneId) (word : List Byte) (s : State) :
    exec (.laneReportArrival l word) s = .next (s.laneArrival l word) := rfl

theorem exec_alive (l : LaneId) (b : Byte) (s : State) : exec (.alive l b) s = .next (s.takeAlive l b) := rfl

theorem exec_aliveWatchExpiry (l : LaneId) (s : State) :
    exec (.aliveWatchExpiry l) s = execAliveWatchExpiry l s := rfl

/-! ### Lanes and their ports -/

@[simp] theorem State.setLane_lane_self (s : State) (l : LaneId) : s.setLane l (s.lane l) = s := by
  simp [State.setLane, State.lane]

@[simp] theorem State.port_setLane (s : State) (l : LaneId) (x : Lane) (p : PortId) :
    (s.setLane l x).port p = s.port p := rfl

@[simp] theorem laneOf_portAt (l : LaneId) (k : Fin 8) : laneOf (portAt l k) = l :=
  Fin.ext (show (8 * l.val + k.val) / 8 = l.val by omega)

@[simp] theorem localOf_portAt (l : LaneId) (k : Fin 8) : localOf (portAt l k) = k :=
  Fin.ext (show (8 * l.val + k.val) % 8 = k.val by omega)

theorem portAt_laneOf_localOf (p : PortId) : portAt (laneOf p) (localOf p) = p :=
  Fin.ext (Nat.div_add_mod p.val 8)

/-- The eight ports of a lane, in the order of their local index (log entry 29). -/
def lanePorts (l : LaneId) : List PortId := (List.finRange 8).map (portAt l)

@[simp] theorem mem_lanePorts {l : LaneId} {p : PortId} : p ∈ lanePorts l ↔ laneOf p = l := by
  simp only [lanePorts, List.mem_map, List.mem_finRange, true_and]
  constructor
  · rintro ⟨k, rfl⟩
    exact laneOf_portAt l k
  · rintro rfl
    exact ⟨localOf p, portAt_laneOf_localOf p⟩

theorem lanePorts_sorted (l : LaneId) : (lanePorts l).Pairwise (· < ·) :=
  List.pairwise_map.2 ((List.pairwise_lt_finRange 8).imp fun {j k} h =>
    show 8 * l.val + j.val < 8 * l.val + k.val by have : j.val < k.val := h; omega)

theorem lanePorts_nodup (l : LaneId) : (lanePorts l).Nodup := (lanePorts_sorted l).imp Fin.ne_of_lt

/-! ### A report at a lane's FIFO (R36 to R38) -/

theorem replaceMargin_cons_of_not {k : Fin 8} {x : Report} (h : x.isMarginOf k = false) (m : PerPair Int)
    (q : List Report) : replaceMargin k m (x :: q) = (replaceMargin k m q).map (x :: ·) := by
  cases x with
  | margin k' m' =>
    have hk : k' ≠ k := by simpa [Report.isMarginOf] using h
    simp [replaceMargin, hk]
  | _ => rfl

/-- R37: the first MARGIN of the port gives its place to the new one. -/
theorem replaceMargin_of_first {k : Fin 8} (m old : PerPair Int) {before : List Report} (after : List Report)
    (h : ∀ x ∈ before, x.isMarginOf k = false) :
    replaceMargin k m (before ++ .margin k old :: after) = some (before ++ .margin k m :: after) := by
  induction before with
  | nil => simp [replaceMargin]
  | cons x before ih =>
    obtain ⟨hx, hbefore⟩ := List.forall_mem_cons.1 h
    rw [List.cons_append, replaceMargin_cons_of_not hx, ih hbefore]
    rfl

theorem replaceMargin_of_none {k : Fin 8} (m : PerPair Int) {q : List Report}
    (h : ∀ x ∈ q, x.isMarginOf k = false) : replaceMargin k m q = none := by
  induction q with
  | nil => rfl
  | cons x q ih =>
    obtain ⟨hx, hq⟩ := List.forall_mem_cons.1 h
    rw [replaceMargin_cons_of_not hx, ih hq]
    rfl

theorem Lane.offer_of_first {x : Lane} {r : Report} {k : Fin 8} {m old : PerPair Int} {before after : List Report}
    (hr : r = .margin k m) (hfifo : x.fifo = before ++ .margin k old :: after)
    (h : ∀ y ∈ before, y.isMarginOf k = false) : x.offer r = { x with fifo := before ++ r :: after } := by
  subst hr
  simp [Lane.offer, hfifo, replaceMargin_of_first m old after h]

/-- R36: a report that replaces none goes to the tail. -/
theorem Lane.offer_of_new {x : Lane} {r : Report}
    (h : (∀ k m, r ≠ .margin k m) ∨ ∀ y ∈ x.fifo, y.isMarginOf r.localPort = false) : x.offer r = x.addTail r := by
  cases r with
  | margin k m =>
    have hnone : replaceMargin k m x.fifo = none := replaceMargin_of_none m (h.resolve_left fun hr => hr k m rfl)
    simp [Lane.offer, hnone]
  | _ => rfl

theorem Lane.addTail_of_room {x : Lane} (r : Report) (h : x.fifo.length < 15) :
    x.addTail r = { x with fifo := x.fifo ++ [r] } := by
  simp [Lane.addTail, show x.fifo.length < 16 by omega, show x.fifo.length ≠ 15 by omega]

theorem Lane.addTail_of_last {x : Lane} (r : Report) (h : x.fifo.length = 15) :
    x.addTail r = { x with fifo := x.fifo ++ [r], ready := false } := by
  simp [Lane.addTail, h]

theorem Lane.addTail_of_full {x : Lane} (r : Report) (h : 16 ≤ x.fifo.length) : x.addTail r = x := by
  simp [Lane.addTail, show ¬x.fifo.length < 16 by omega]

/-- R35: a checked report is offered to the FIFO of an UP lane, and lost at a DOWN one. -/
theorem State.laneArrival_report {l : LaneId} {word : List Byte} {r : Report}
    (h : laneWordOfBytes word = some (.report r)) (s : State) :
    s.laneArrival l word = if (s.lane l).up = true then s.setLane l ((s.lane l).offer r) else s := by
  simp [State.laneArrival, h, State.modLane_eq_setLane]

/-- Settles O32, by the outcome of the word's decoding, the lane's state and the FIFO's fill. -/
theorem laneReportArrival : Obligations.LaneReportArrival := by
  intro s l word
  simp only [exec_laneReportArrival, exec_alive]
  refine ⟨fun h => by simp [State.laneArrival, h], fun b h => by simp [State.laneArrival, h],
    fun r h => ⟨fun hdown => by simp [State.laneArrival_report h, hdown], fun hup => ?_⟩⟩
  have offered : s.laneArrival l word = s.setLane l ((s.lane l).offer r) := by
    simp [State.laneArrival_report h, hup]
  refine ⟨fun m old before after hr hfifo hbefore => ?_, fun hnew => ?_⟩
  · rw [offered, Lane.offer_of_first hr hfifo hbefore]
  · rw [offered, Lane.offer_of_new hnew]
    exact ⟨fun hlen => by rw [Lane.addTail_of_room r hlen], fun hlen => by rw [Lane.addTail_of_last r hlen],
      fun hlen => by rw [Lane.addTail_of_full r hlen, State.setLane_lane_self]⟩

/-! ### A port transition's notice depends on the link and the seconds alone -/

/-- What the start of an IDLE transmitter makes of the link (R194). -/
def Link.startIfIdle (k : Link) : Link := if k.ready = true ∧ k.transmitter = .idle then k.afterFrame else k

theorem State.startIfIdle_link (s : State) : s.startIfIdle.link = s.link.startIfIdle := by
  rw [State.startIfIdle_eq, Link.startIfIdle]
  split <;> rfl

theorem State.queueNotice_link_congr {s t : State} (h : t.link = s.link) (n : Notice) :
    (t.queueNotice n).link = (s.queueNotice n).link := by
  unfold State.queueNotice
  rw [h]
  split
  · split
    · simp [h]
    · simp [State.startIfIdle_link, h]
  · exact h

theorem State.changeState_link_congr {s t : State} (hlink : t.link = s.link) (hseconds : t.seconds = s.seconds)
    (p : PortId) (c : PortCtx) : (t.changeState p c).link = (s.changeState p c).link := by
  unfold State.changeState
  rw [hseconds]
  exact State.queueNotice_link_congr (by simpa using hlink) _

@[simp] theorem State.changeState_seconds (s : State) (p : PortId) (c : PortCtx) :
    (s.changeState p c).seconds = s.seconds := (State.queueNotice_base (s.setPort p c) _).1

theorem State.port_changeState_ne (s : State) (c : PortCtx) {p q : PortId} (h : q ≠ p) :
    (s.changeState p c).port q = s.port q := by
  unfold State.changeState
  rw [State.port_congr (State.queueNotice_ports _ _), s.port_setPort_ne c h]

/-! ### What a port's move leaves as it was -/

/-- Two states that differ in the ports and the link alone. -/
def State.sameButPortsAndLink (s t : State) : Prop := t = { s with ports := t.ports, link := t.link }

theorem State.sameButPortsAndLink.trans {s t u : State} (h : s.sameButPortsAndLink t) (k : t.sameButPortsAndLink u) :
    s.sameButPortsAndLink u := by
  unfold State.sameButPortsAndLink at *
  rw [k, h]

theorem State.sameButPortsAndLink.keeps {s t : State} (h : s.sameButPortsAndLink t) :
    t.lanes = s.lanes ∧ t.slots = s.slots ∧ t.engines = s.engines ∧ t.routes = s.routes ∧ t.bus = s.bus
      ∧ t.store = s.store := by
  rw [State.sameButPortsAndLink] at h
  rw [h]
  exact ⟨rfl, rfl, rfl, rfl, rfl, rfl⟩

theorem State.changeState_sameButPortsAndLink (s : State) (p : PortId) (c : PortCtx) :
    s.sameButPortsAndLink (s.changeState p c) := by
  have h := State.queueNotice_sameButLink (s.setPort p c)
  unfold State.sameButPortsAndLink State.changeState
  rw [h]
  rfl

/-! ### A lane that goes DOWN, port by port (R23) -/

/-- The model's test of the states of R14 and R23 says what the statements say. -/
theorem PortCtx.bringingUp_iff (c : PortCtx) : c.bringingUp = true ↔ c.inBringUp := by
  unfold PortCtx.bringingUp PortCtx.inBringUp
  cases c.state <;> simp

/-- What its lane's going DOWN makes of a port that was being brought up. -/
def PortCtx.laneLost (c : PortCtx) : PortCtx := (c.listening .laneDown).latch

/-- What its lane's going DOWN makes of any port. -/
def PortCtx.afterLaneDown (c : PortCtx) : PortCtx := if c.bringingUp = true then c.laneLost else { c with energy := false }

theorem PortCtx.afterLaneDown_of_inBringUp {c : PortCtx} (h : c.inBringUp) :
    c.afterLaneDown = (c.listening .laneDown).latch := if_pos (c.bringingUp_iff.2 h)

theorem PortCtx.afterLaneDown_of_not_inBringUp {c : PortCtx} (h : ¬c.inBringUp) :
    c.afterLaneDown = { c with energy := false } := if_neg (mt c.bringingUp_iff.1 h)

/-- A port being brought up changes its state, with the notice of R32; any other only loses its energy. -/
theorem State.laneDownPort_eq (s : State) (p : PortId) :
    s.laneDownPort p = if (s.port p).bringingUp = true then s.changeState p (s.port p).laneLost
      else s.setPort p { s.port p with energy := false } := by
  unfold State.laneDownPort
  split
  case isTrue h =>
    have hentry : PortCtx.enterListen (some .laneDown) (s.port p) = (s.port p).laneLost := rfl
    have hlisten : (s.port p).laneLost.state = .listen := (PortCtx.latch_keeps _).1
    have hmoves : PortState.listen ≠ (s.port p).state := by
      intro e
      simp [PortCtx.bringingUp, ← e] at h
    simp [State.enterListen, State.movePort_eq, hentry, hlisten, hmoves]
  case isFalse => rfl

@[simp] theorem State.port_laneDownPort (s : State) (p : PortId) :
    (s.laneDownPort p).port p = (s.port p).afterLaneDown := by
  rw [State.laneDownPort_eq, PortCtx.afterLaneDown]
  split <;> simp

theorem State.port_laneDownPort_ne (s : State) {p q : PortId} (h : q ≠ p) : (s.laneDownPort p).port q = s.port q := by
  rw [State.laneDownPort_eq]
  split
  · exact s.port_changeState_ne _ h
  · exact s.port_setPort_ne _ h

theorem State.laneDownPort_sameButPortsAndLink (s : State) (p : PortId) :
    s.sameButPortsAndLink (s.laneDownPort p) := by
  rw [State.laneDownPort_eq]
  split
  · exact s.changeState_sameButPortsAndLink p _
  · rfl

/-! ### The ports of a lane in turn -/

theorem State.foldl_laneDownPort_sameButPortsAndLink (ps : List PortId) (s : State) :
    s.sameButPortsAndLink (ps.foldl State.laneDownPort s) := by
  induction ps generalizing s with
  | nil => rfl
  | cons p ps ih => exact (s.laneDownPort_sameButPortsAndLink p).trans (ih _)

theorem State.port_foldl_laneDownPort {ps : List PortId} (hnodup : ps.Nodup) (s : State) (q : PortId) :
    (ps.foldl State.laneDownPort s).port q = if q ∈ ps then (s.laneDownPort q).port q else s.port q := by
  induction ps generalizing s with
  | nil => simp
  | cons p ps ih =>
    obtain ⟨hp, hps⟩ := List.nodup_cons.1 hnodup
    rw [List.foldl_cons, ih hps]
    by_cases hq : q = p
    · subst hq
      simp [hp]
    · simp [hq, s.port_laneDownPort_ne hq]

/-- The notices of a lane that goes DOWN are those of its ports in bring-up, in the order of the ports: the others queue
none, and a port's notice does not depend on the ports before it. -/
theorem State.link_foldl_laneDownPort {ps : List PortId} (hnodup : ps.Nodup) {s v : State}
    (hlink : v.link = s.link) (hseconds : v.seconds = s.seconds) (hports : ∀ p ∈ ps, v.port p = s.port p) :
    (ps.foldl State.laneDownPort s).link =
      ((ps.filter fun p => (s.port p).bringingUp).foldl (fun v p => v.changeState p (v.port p).laneLost) v).link := by
  induction ps generalizing s v with
  | nil => exact hlink.symm
  | cons p ps ih =>
    obtain ⟨hp, hps⟩ := List.nodup_cons.1 hnodup
    obtain ⟨hvp, hvps⟩ := List.forall_mem_cons.1 hports
    have hne : ∀ q ∈ ps, q ≠ p := fun q hq e => hp (e ▸ hq)
    have hleft : ∀ q ∈ ps, (s.laneDownPort p).port q = s.port q := fun q hq => s.port_laneDownPort_ne (hne q hq)
    have hfilter : (ps.filter fun q => (s.port q).bringingUp) =
        ps.filter fun q => ((s.laneDownPort p).port q).bringingUp :=
      List.filter_congr fun q hq => by rw [hleft q hq]
    rw [List.foldl_cons, List.filter_cons, hfilter]
    split
    case isTrue hup =>
      have hmove : s.laneDownPort p = s.changeState p (s.port p).laneLost := by rw [State.laneDownPort_eq, if_pos hup]
      rw [List.foldl_cons, hvp]
      refine ih hps ?_ ?_ fun q hq => ?_
      · rw [hmove, State.changeState_link_congr hlink hseconds]
      · rw [hmove, State.changeState_seconds, State.changeState_seconds, hseconds]
      · rw [hleft q hq, v.port_changeState_ne _ (hne q hq), hvps q hq]
    case isFalse hup =>
      have hstay : s.laneDownPort p = s.setPort p { s.port p with energy := false } := by
        rw [State.laneDownPort_eq, if_neg hup]
      refine ih hps ?_ ?_ fun q hq => ?_
      · rw [hstay, State.setPort_link, hlink]
      · rw [hstay, State.setPort_seconds, hseconds]
      · rw [hleft q hq, hvps q hq]

/-! ### A lane that goes DOWN (R45) -/

/-- The record of a lane that has just gone DOWN. -/
def Lane.down (x : Lane) : Lane := { up := false, watch := none, fifo := [], ready := true, sent := x.sent }

theorem State.laneDown_eq (s : State) (l : LaneId) :
    s.laneDown l = (lanePorts l).foldl State.laneDownPort (s.setLane l (s.lane l).down) := by
  rw [lanePorts, List.foldl_map]
  rfl

theorem State.laneDown_sameButPortsAndLink (s : State) (l : LaneId) :
    (s.setLane l (s.lane l).down).sameButPortsAndLink (s.laneDown l) := by
  rw [State.laneDown_eq]
  exact State.foldl_laneDownPort_sameButPortsAndLink _ _

theorem State.laneDown_keeps (s : State) (l : LaneId) :
    (s.laneDown l).slots = s.slots ∧ (s.laneDown l).engines = s.engines ∧ (s.laneDown l).routes = s.routes
      ∧ (s.laneDown l).bus = s.bus ∧ (s.laneDown l).store = s.store :=
  (s.laneDown_sameButPortsAndLink l).keeps.2

theorem State.lane_laneDown (s : State) (l m : LaneId) :
    (s.laneDown l).lane m = (s.setLane l (s.lane l).down).lane m := by
  obtain ⟨hlanes, -⟩ := (s.laneDown_sameButPortsAndLink l).keeps
  exact State.lane_congr hlanes m

theorem State.port_laneDown (s : State) (l : LaneId) (p : PortId) :
    (s.laneDown l).port p = if laneOf p = l then (s.port p).afterLaneDown else s.port p := by
  rw [State.laneDown_eq, State.port_foldl_laneDownPort (lanePorts_nodup l)]
  by_cases hp : laneOf p = l <;> simp [hp]

theorem State.link_laneDown (s : State) (l : LaneId) : (s.laneDown l).link =
    (((lanePorts l).filter fun p => (s.port p).bringingUp).foldl
      (fun v p => v.changeState p (v.port p).laneLost) s).link := by
  rw [State.laneDown_eq]
  exact State.link_foldl_laneDownPort (lanePorts_nodup l) rfl rfl fun _ _ => rfl

/-! ### A lane that comes UP (R46) -/

/-- Words sent to the transceiver of a lane. -/
def Lane.send (x : Lane) (words : List (List Byte)) : Lane := { x with sent := x.sent ++ words }

@[simp] theorem Lane.send_nil (x : Lane) : x.send [] = x := by simp [Lane.send]

@[simp] theorem Lane.send_send (x : Lane) (v w : List (List Byte)) : (x.send v).send w = x.send (v ++ w) := by
  simp [Lane.send]

@[simp] theorem Lane.send_up (x : Lane) (words : List (List Byte)) : (x.send words).up = x.up := rfl

/-- The command that matches the port's state, sent (R46). -/
def State.resendPort (s : State) (p : PortId) : State :=
  match (s.port p).resend with
  | some c => s.sendLane p c
  | none => s

/-- The words that bring the transceivers of these local ports into line with their states (R46). -/
def State.resendWords (s : State) (l : LaneId) (ks : List (Fin 8)) : List (List Byte) :=
  ks.filterMap fun k => (s.port (portAt l k)).resend.map fun c => c.word k

theorem State.resendPort_eq {s : State} {l : LaneId} (hup : (s.lane l).up = true) (k : Fin 8) :
    s.resendPort (portAt l k) = s.setLane l ((s.lane l).send (s.resendWords l [k])) := by
  unfold State.resendPort
  cases h : (s.port (portAt l k)).resend with
  | none => simp [State.resendWords, h]
  | some c => simp [State.resendWords, h, State.sendLane_eq, hup, Lane.send]

theorem State.foldl_resendPort (ks : List (Fin 8)) {s : State} {l : LaneId} (hup : (s.lane l).up = true) :
    ks.foldl (fun t k => t.resendPort (portAt l k)) s = s.setLane l ((s.lane l).send (s.resendWords l ks)) := by
  induction ks generalizing s with
  | nil => simp [State.resendWords]
  | cons k ks ih =>
    have hwords : s.resendWords l (k :: ks) = s.resendWords l [k] ++ s.resendWords l ks :=
      List.filterMap_append (l := [k])
    have hports (x : Lane) : (s.setLane l x).resendWords l ks = s.resendWords l ks := rfl
    rw [List.foldl_cons, State.resendPort_eq hup, ih (by simpa using hup), hports, hwords]
    simp

/-- The record of a lane that has just come UP, its watch loaded (R44). -/
def Lane.raised (x : Lane) : Lane := { x with up := true, watch := some 300 }

theorem State.laneUp_eq (s : State) (l : LaneId) :
    s.laneUp l = s.setLane l ((s.lane l).raised.send (s.resendWords l (List.finRange 8))) := by
  have hfold : s.laneUp l =
      (List.finRange 8).foldl (fun t k => t.resendPort (portAt l k)) (s.setLane l (s.lane l).raised) := rfl
  have hwords (x : Lane) (ks : List (Fin 8)) : (s.setLane l x).resendWords l ks = s.resendWords l ks := rfl
  rw [hfold, State.foldl_resendPort _ (by simp [Lane.raised]), hwords]
  simp

/-! ### The ALIVE watch (R44, R47) -/

theorem State.takeAlive_running {s : State} {l : LaneId} (hup : (s.lane l).up = true) :
    s.takeAlive l 1 = s.setLane l { s.lane l with watch := some 300 } := by
  simp [State.takeAlive, hup, State.modLane_eq_setLane]

theorem State.takeAlive_restarted {s : State} {l : LaneId} (hup : (s.lane l).up = true) :
    s.takeAlive l 2 = (s.laneDown l).laneUp l := by
  simp [State.takeAlive, hup]

theorem State.takeAlive_down {s : State} {l : LaneId} {b : Byte} (hb : b = 1 ∨ b = 2) (hdown : (s.lane l).up = false) :
    s.takeAlive l b = s.laneUp l := by
  rcases hb with rfl | rfl <;> simp [State.takeAlive, hdown]

theorem State.takeAlive_other (s : State) (l : LaneId) {b : Byte} (h1 : b ≠ 1) (h2 : b ≠ 2) : s.takeAlive l b = s := by
  have n1 : b.toNat ≠ 1 := fun e => h1 (BitVec.eq_of_toNat_eq e)
  have n2 : b.toNat ≠ 2 := fun e => h2 (BitVec.eq_of_toNat_eq e)
  simp [State.takeAlive, n1, n2]

/-- The time that the watch still had to run adds no word to those sent. -/
theorem State.lane_runOutMs_sent (s : State) (n : Nat) (l : LaneId) : ((s.runOutMs n).lane l).sent = (s.lane l).sent := by
  unfold State.runOutMs State.elapse
  split
  · rfl
  · split <;> simp [State.lane]

/-- Settles O33. What a lane's going DOWN does is shown once, for any record the lane has afterwards, and then used for
RESTARTED, where the lane comes UP again, and for the watch's expiry, where it does not. -/
theorem laneAliveWatch : Obligations.LaneAliveWatch := by
  intro s l resend resent wentDown
  have down (u : State) (x : Lane) : wentDown u ((u.laneDown l).setLane l x) := by
    have hport := u.port_laneDown l
    have hlane := u.lane_laneDown l
    have hlink := u.link_laneDown l
    obtain ⟨hslots, hengines, hroutes, hbus, hstore⟩ := u.laneDown_keeps l
    generalize u.laneDown l = t at hport hlane hlink hslots hengines hroutes hbus hstore ⊢
    refine ⟨fun p hp => ?_, fun p hp hup => ?_, fun p hp hup => ?_, fun m hm => ?_, hslots, hengines, hroutes, hbus, hstore,
      (lanePorts l).filter fun p => (u.port p).bringingUp, fun p => ?_, (lanePorts_sorted l).filter _, hlink⟩
    · rw [State.port_setLane, hport, if_neg hp]
    · rw [State.port_setLane, hport, if_pos hp, PortCtx.afterLaneDown_of_inBringUp hup]
    · rw [State.port_setLane, hport, if_pos hp, PortCtx.afterLaneDown_of_not_inBringUp hup]
    · rw [State.lane_setLane_ne _ _ hm, hlane, State.lane_setLane_ne _ _ hm]
    · simp [PortCtx.bringingUp_iff]
  simp only [exec_alive, exec_aliveWatchExpiry]
  refine ⟨fun b h1 h2 => by rw [s.takeAlive_other l h1 h2], fun hup => by rw [State.takeAlive_running hup],
    fun b hb hdown => ?_, fun hup => ?_, fun n hn => ?_, fun hn => by simp [execAliveWatchExpiry, hn]⟩
  · rw [State.takeAlive_down hb hdown, State.laneUp_eq]
    rfl
  · rw [State.takeAlive_restarted hup, State.laneUp_eq]
    have hdown := down s
    have hlane := s.lane_laneDown l l
    generalize s.laneDown l = t at hdown hlane ⊢
    refine ⟨_, rfl, hdown _, ?_⟩
    rw [State.lane_setLane, hlane, State.lane_setLane]
    rfl
  · refine ⟨(s.runOutMs n).laneDown l, by simp [execAliveWatchExpiry, hn], ?_, ?_⟩
    · rw [← ((s.runOutMs n).laneDown l).setLane_lane_self l]
      exact down _ _
    · rw [State.lane_laneDown, State.lane_setLane, Lane.down, State.lane_runOutMs_sent]

end Sys2Proof.Machine
end
